-- ==== Sys2Proof/Word.lean ====
section
/-! DEFINITION. The widths the EDTU's registers and data have (00_scope.md R11). -/

namespace Sys2Proof

/-- A register or a host access: 32 bits (00_scope.md R11, 20_memory.md R74). -/
abbrev Word := BitVec 32

/-- A 16-bit register field (10_state.md R30 to R37). -/
abbrev Half := BitVec 16

/-- A byte (00_scope.md R11). -/
abbrev Byte := BitVec 8

end Sys2Proof
end

