-- ==== Sys2Proof/Config.lean ====
section
/-! DEFINITION. The implementation parameters of 00_scope.md R6, the values they have at reset, and the
free values that 93_implementation_defined.md I1 to I3 leave to be any value. -/

namespace Sys2Proof.Config

/-- One entry of the partial map `MODEL_RES`: a model identifier and its resolution (00_scope.md R6). -/
structure ModelEntry where
  id     : Byte
  width  : Half
  height : Half
  deriving DecidableEq, Repr

/-- The parameters of one EDTU (00_scope.md R6). They are configuration, fixed for the life of the hardware
(10_state.md R20); State carries one value of this type, so that a statement about every state is a statement
about every value of the parameters (assumption log 4). -/
structure Params where
  /-- `PIX_CAP`, pixels. -/
  pixCap     : Nat
  /-- `PLANE_CAP`, bytes. -/
  planeCap   : Nat
  /-- `MODEL_RES`; the first entry of an identifier is its resolution. -/
  modelRes   : List ModelEntry
  opInit     : Byte
  opClear    : Byte
  opRefresh  : Byte
  opWriteImg : Byte
  hdrSel0    : Byte
  hdrSel1    : Byte
  hdrCont    : Byte
  deriving DecidableEq, Repr

/-- `PIX_CAP - 1`, OPEN in 00_scope.md R6 with `1 <= PIX_CAP <= 2^22`. -/
opaque pixCapLessOne : Fin 4194304

/-- `PLANE_CAP - 2`, OPEN in 00_scope.md R6 with `2 <= PLANE_CAP <= 0x00FF0000`. -/
opaque planeCapLessTwo : Fin 16711679

/-- `MODEL_RES`, OPEN in 00_scope.md R6: identifiers with width less one and height less one, so that each
dimension lies in 1..65535. -/
opaque modelTable : List (Byte × Fin 65535 × Fin 65535)

/-- The entry of `MODEL_RES` that one row of `modelTable` stands for. -/
def modelEntryOf (row : Byte × Fin 65535 × Fin 65535) : ModelEntry :=
  { id := row.1, width := BitVec.ofNat 16 (row.2.1.val + 1), height := BitVec.ofNat 16 (row.2.2.val + 1) }

/-- The parameters of the machine after reset: the OPEN rows of 00_scope.md R6 unknown, every other row the
value R6 fixes. -/
def params : Params :=
  { pixCap     := pixCapLessOne.val + 1
    planeCap   := planeCapLessTwo.val + 2
    modelRes   := modelTable.map modelEntryOf
    opInit     := 0x01#8
    opClear    := 0x02#8
    opRefresh  := 0x05#8
    opWriteImg := 0x30#8
    hdrSel0    := 0x0F#8
    hdrSel1    := 0x00#8
    hdrCont    := 0xF0#8 }

/-- FREE VALUE (93_implementation_defined.md I1): the accumulator with a given index (three to a pixel) that nothing has
written since the given reset (assumption log 5). -/
opaque resetAccumulator : (epoch : Nat) → (index : Nat) → BitVec 32

/-- FREE VALUE (93_implementation_defined.md I2): the plane byte with a given index that nothing has written since
the given reset (assumption log 6). -/
opaque resetPlaneByte : (epoch : Nat) → (index : Nat) → Byte

/-- FREE VALUE (93_implementation_defined.md I3): what the n-th window read made while BUSY answers
(assumption log 7). -/
opaque busyRead : (n : Nat) → Word

end Sys2Proof.Config
end

