-- ==== Sys2Proof/Syntax.lean ====
section
/-! DEFINITION. The instructions of the EDTU: every mnemonic of spec/opcode_table.json (30_encoding.md R92, R96,
R101). The six rows named ILLEGAL are one class of 40_command.md R126 and are one constructor, whose operand is the
OP field. -/

namespace Sys2Proof

/-- The host commands written to `CMD` (30_encoding.md R92) and the wire frames (30_encoding.md R96, R101). -/
inductive Instr where
  /-- NOP, OP 0x00 (40_command.md R125). -/
  | nop
  /-- OPEN, OP 0x01 (43_session.md R170). -/
  | openSession
  /-- QUANT, OP 0x02 (41_quantizer.md R133). -/
  | quant
  /-- PACK, OP 0x03 (42_bitplane.md R160). -/
  | pack
  /-- XFER, OP 0x04 (44_transfer.md R200). -/
  | xfer
  /-- CLOSE, OP 0x05 (43_session.md R188). -/
  | close
  /-- LDKERN, OP 0x06 (41_quantizer.md R151). -/
  | ldkern
  /-- A reserved OP, 0x07 to 0xFF (40_command.md R126). -/
  | illegal (op : Byte)
  /-- The INIT frame (45_codec.md R221). -/
  | init
  /-- The CLEAR frame (45_codec.md R222). -/
  | clear
  /-- The REFRESH frame (45_codec.md R223). -/
  | refresh
  /-- The WRITE_IMG frame: header byte and chunk (45_codec.md R224). -/
  | writeImg (hdr : Byte) (chunk : List Byte)
  /-- The vendor frame "pin configuration", never emitted (45_codec.md R225). -/
  | pinConfig (payload : List Byte)
  /-- The vendor frame "sleep", never emitted (45_codec.md R225). -/
  | sleep (payload : List Byte)
  /-- The vendor frame "reset", never emitted (45_codec.md R225). -/
  | reset (payload : List Byte)
  /-- The vendor frame "config erase", never emitted (45_codec.md R225). -/
  | configErase (payload : List Byte)
  deriving DecidableEq, Repr

end Sys2Proof
end

