-- ==== Sys2Proof/WellFormed.lean ====
section
/-! DEFINITION. What the encoding admits: the constraints on the parameters (00_scope.md R6, R7) and on the operands
of an instruction (30_encoding.md R92, R97, R98). -/

namespace Sys2Proof

/-- The constraints of 00_scope.md R6 (ranges of the OPEN rows) and R7 (wire bytes). -/
abbrev Config.Params.Ok (p : Config.Params) : Prop :=
  1 ≤ p.pixCap ∧ p.pixCap ≤ 4194304 ∧ 2 ≤ p.planeCap ∧ p.planeCap ≤ 0x00FF0000 ∧
  (∀ e ∈ p.modelRes, 1 ≤ e.width.toNat ∧ 1 ≤ e.height.toNat) ∧
  p.hdrSel0 ≠ p.hdrSel1 ∧ p.hdrCont ≠ 0 ∧ p.hdrCont &&& p.hdrSel0 = 0 ∧ p.hdrCont &&& p.hdrSel1 = 0 ∧
  [p.opInit, p.opClear, p.opRefresh, p.opWriteImg].Nodup

/-- The opcode bytes of the four frames the unit emits (30_encoding.md R96). -/
def emittedOpcodes (p : Config.Params) : List Byte :=
  [p.opInit, p.opClear, p.opRefresh, p.opWriteImg]

/-- The header bytes 30_encoding.md R98 can assemble: first and later chunks of plane B and of plane R. -/
def headerBytes (p : Config.Params) : List Byte :=
  [p.hdrSel0, p.hdrSel0 ||| p.hdrCont, p.hdrSel1, p.hdrSel1 ||| p.hdrCont]

/-- The longest chunk: `TU - 1` bytes with a 16-bit `TU` (30_encoding.md R97, 10_state.md R33). -/
def maxChunk : Nat := 65534

/-- The operands an encoding admits. A reserved OP is 0x07 to 0xFF (30_encoding.md R93); a WRITE_IMG has one of the
four header bytes and 1 to 65534 chunk bytes (30_encoding.md R97, R98); a vendor frame is told from the emitted ones by
an opcode byte none of them has (30_encoding.md R101). -/
def wellFormed (p : Config.Params) : Instr → Bool
  | .nop => true
  | .openSession => true
  | .quant => true
  | .pack => true
  | .xfer => true
  | .close => true
  | .ldkern => true
  | .illegal op => decide (7 ≤ op.toNat)
  | .init => true
  | .clear => true
  | .refresh => true
  | .writeImg hdr chunk =>
      decide (hdr ∈ headerBytes p) && decide (1 ≤ chunk.length) && decide (chunk.length ≤ maxChunk)
  | .pinConfig _ => decide (0x00#8 ∉ emittedOpcodes p)
  | .sleep _ => decide (0x06#8 ∉ emittedOpcodes p)
  | .reset _ => decide (0x91#8 ∉ emittedOpcodes p)
  | .configErase _ => decide (0x99#8 ∉ emittedOpcodes p)

end Sys2Proof
end

