-- ==== Sys2Proof/Decode.lean ====
section
/-! DEFINITION. The decoder of the two encoding spaces of 30_encoding.md R90, total and rejecting by name, and the
encoder written from the same tables. -/

namespace Sys2Proof

/-- What is decoded: a word written to `CMD`, or a byte string carried by a `WRITE` link request (30_encoding.md
R90 (a), (b)). -/
inductive Code where
  | command (w : Word)
  | frame (bytes : List Byte)
  deriving DecidableEq, Repr

/-- Why a byte string is no wire frame of 30_encoding.md R95 to R101. -/
inductive DecodeError where
  /-- No opcode byte (R95). -/
  | emptyFrame
  /-- An opcode byte that R96 and R101 do not list. -/
  | unknownOpcode (op : Byte)
  /-- INIT, CLEAR or REFRESH with a payload (R96). -/
  | payloadNotEmpty
  /-- WRITE_IMG without a header byte, with no chunk byte, or with more than the longest chunk (R97). -/
  | chunkLength
  /-- A header byte that R98 cannot assemble. -/
  | badHeader (hdr : Byte)
  deriving DecidableEq, Repr

/-- The field OP of a host command word (30_encoding.md R91). -/
def opField (w : Word) : Byte := w.extractLsb' 0 8

/-- The host opcode map (30_encoding.md R92, R93); total (R109). Bits [31:8] are ignored (R91). -/
def decodeCommand (w : Word) : Instr :=
  match (opField w).toNat with
  | 0 => .nop
  | 1 => .openSession
  | 2 => .quant
  | 3 => .pack
  | 4 => .xfer
  | 5 => .close
  | 6 => .ldkern
  | _ => .illegal (opField w)

/-- The payload of a WRITE_IMG frame (30_encoding.md R97, R98). -/
def decodeImage (p : Config.Params) (payload : List Byte) : Except DecodeError Instr :=
  match payload with
  | [] => .error .chunkLength
  | hdr :: chunk =>
    if chunk.length = 0 ∨ maxChunk < chunk.length then .error .chunkLength
    else if hdr ∈ headerBytes p then .ok (.writeImg hdr chunk)
    else .error (.badHeader hdr)

/-- A frame with an empty payload (30_encoding.md R96). -/
def decodeBare (i : Instr) (payload : List Byte) : Except DecodeError Instr :=
  match payload with
  | [] => .ok i
  | _ :: _ => .error .payloadNotEmpty

/-- The wire opcode map (30_encoding.md R96); the bytes of R101 are recognised after it, since R96's are parameters. -/
def decodeFrame (p : Config.Params) (bytes : List Byte) : Except DecodeError Instr :=
  match bytes with
  | [] => .error .emptyFrame
  | op :: payload =>
    if op = p.opInit then decodeBare .init payload
    else if op = p.opClear then decodeBare .clear payload
    else if op = p.opRefresh then decodeBare .refresh payload
    else if op = p.opWriteImg then decodeImage p payload
    else if op = 0x00#8 then .ok (.pinConfig payload)
    else if op = 0x06#8 then .ok (.sleep payload)
    else if op = 0x91#8 then .ok (.reset payload)
    else if op = 0x99#8 then .ok (.configErase payload)
    else .error (.unknownOpcode op)

/-- The decoder of both encoding spaces. -/
def decode (p : Config.Params) : Code → Except DecodeError Instr
  | .command w => .ok (decodeCommand w)
  | .frame bytes => decodeFrame p bytes

/-- A wire frame: the opcode byte, then the payload, no length prefix (30_encoding.md R95, 45_codec.md R220). -/
def frameBytes (op : Byte) (payload : List Byte) : List Byte := op :: payload

/-- The encoding of an instruction: the command word with its ignored bits 0 (30_encoding.md R91, R92), or the frame
(R95, R96, R101). -/
def encode (p : Config.Params) : Instr → Code
  | .nop => .command 0x00#32
  | .openSession => .command 0x01#32
  | .quant => .command 0x02#32
  | .pack => .command 0x03#32
  | .xfer => .command 0x04#32
  | .close => .command 0x05#32
  | .ldkern => .command 0x06#32
  | .illegal op => .command (op.setWidth 32)
  | .init => .frame (frameBytes p.opInit [])
  | .clear => .frame (frameBytes p.opClear [])
  | .refresh => .frame (frameBytes p.opRefresh [])
  | .writeImg hdr chunk => .frame (frameBytes p.opWriteImg (hdr :: chunk))
  | .pinConfig payload => .frame (frameBytes 0x00#8 payload)
  | .sleep payload => .frame (frameBytes 0x06#8 payload)
  | .reset payload => .frame (frameBytes 0x91#8 payload)
  | .configErase payload => .frame (frameBytes 0x99#8 payload)

/-- `n` bytes of `w`, the least significant first. -/
def lowBytes : Nat → Nat → List Byte
  | 0, _ => []
  | n + 1, w => BitVec.ofNat 8 w :: lowBytes n (w / 256)

/-- The opcode bytes of 30_encoding.md R96 and R101. -/
def knownOpcodes (p : Config.Params) : List Byte :=
  emittedOpcodes p ++ [0x00#8, 0x06#8, 0x91#8, 0x99#8]

/-- A frame the table gives too few bytes: a WRITE_IMG has at least a header byte and one chunk byte (30_encoding.md
R97), and the bytes the table does not give are 0. -/
def padFrame (p : Config.Params) (bytes : List Byte) : List Byte :=
  match bytes with
  | [] => []
  | op :: payload => if op = p.opWriteImg then op :: payload ++ List.replicate (2 - payload.length) 0#8 else op :: payload

/-- The row of the opcode table an instruction of `nbits` bits belongs to: rows of the host command word have 32 bits,
rows of the wire frames have 8 (assumption log 10). A shorter word whose first byte is no wire opcode is read as a command
word. -/
def tableCode (p : Config.Params) (nbits w : Nat) : Code :=
  let bytes := lowBytes (nbits / 8) w
  match bytes with
  | [] => .command (BitVec.ofNat 32 w)
  | op :: _ =>
    if nbits < 32 ∧ op ∈ knownOpcodes p then .frame (padFrame p bytes) else .command (BitVec.ofNat 32 w)

/-- The instruction the decoder reads from a row of the opcode table. -/
def decodeTableWord (nbits w : Nat) : Option Instr :=
  match decode Config.params (tableCode Config.params nbits w) with
  | .ok i => some i
  | .error _ => none

end Sys2Proof
end

