-- ==== Sys2Proof/Machine/Arith.lean ====
section
/-! DEFINITION. The integer primitives of 00_scope.md R12 and the byte fields of a word. -/

namespace Sys2Proof.Machine

/-- `fdiv(a, b)`: the floor of `a / b` (00_scope.md R12). -/
def fdiv (a b : Int) : Int := Int.fdiv a b

/-- `ceil_div(a, b)` (00_scope.md R12). -/
def ceilDiv (a b : Nat) : Nat := (a + b - 1) / b

/-- `clamp(v, lo, hi)` (00_scope.md R12). -/
def clamp (v lo hi : Int) : Int := if v < lo then lo else if hi < v then hi else v

/-- `sat8_inc(c)` (00_scope.md R12). -/
def sat8Inc (c : Byte) : Byte := if c.toNat < 255 then c + 1 else c

/-- A bit as a word field. -/
def bitAt (b : Bool) (i : Nat) : Word := if b then 1#32 <<< i else 0#32

/-- Byte `j` of a word: bits `[8j+7:8j]` (20_memory.md R76). -/
def byteOf (w : Word) (j : Nat) : Byte := w.extractLsb' (8 * j) 8

/-- The word whose byte `j` is the j-th argument (20_memory.md R76). -/
def wordOf (b0 b1 b2 b3 : Byte) : Word := b3 ++ b2 ++ b1 ++ b0

/-- Two 16-bit fields as a word, the first in bits [15:0] (10_state.md R30 to R32). -/
def halves (lo hi : Half) : Word := hi ++ lo

end Sys2Proof.Machine
end

