-- ==== Sys2Proof/Machine/State.lean ====
section
/-! DEFINITION. The state of the EDTU (10_state.md), the events it takes and the link requests it emits
(00_scope.md R10, 30_encoding.md R106), why a step can stop, and the state after reset (70_reset_and_hazards.md R262).

Registers are held by field, each at its width. Reserved bits hold nothing: they read 0 and ignore writes
(10_state.md R46). -/

namespace Sys2Proof.Machine

open Sys2Proof.Config (Params)

/-- `CTRL.MODE` (10_state.md R24): 0 monochrome, 1 tri-colour. -/
inductive Mode where
  | mono | tri
  deriving DecidableEq, Repr

/-- `CTRL.ALG` (10_state.md R24): 0 NONE, 1 ED, 2 OD, 3 reserved; all four are storable. -/
inductive Alg where
  | plain | errorDiffusion | ordered | reserved
  deriving DecidableEq, Repr

/-- `SEQ.STATE` (10_state.md R26), codes 0 to 6 in this order. -/
inductive SeqState where
  | disconnected | connecting | negotiating | ready | transferring | refreshing | teardown
  deriving DecidableEq, Repr

/-- `SEQ.WAIT` (10_state.md R26), codes 0 to 13 in this order. -/
inductive Wait where
  | idle | connect | subscribe | initAck | negotiate | clearAck | settleClear | chunkAck | pace | refreshAck
  | settleRefresh | unsubscribe | disconnect | engine
  deriving DecidableEq, Repr

/-- `SEQ.PLANE` (10_state.md R26): plane B is 0, plane R is 1. -/
inductive Plane where
  | b | r
  deriving DecidableEq, Repr

/-- `CUR_OP` (10_state.md R50). -/
inductive CurOp where
  | none | openOp | quantOp | packOp | xferOp | closeOp
  deriving DecidableEq, Repr

/-- The values of `ERRCODE` (60_exceptions.md R230), in the order of its table. -/
inductive ErrCode where
  | none | cfgResolution | cfgTransferUnit | cfgInterleave | cfgCapacity | transfer | cmdAck | linkConnect
  | linkSubscribe | linkTeardown | illegalCommand | sequence | illegalAlg | badKernel | accOverflow
  deriving DecidableEq, Repr

/-- The bits of `STATUS` (10_state.md R27), bit 0 first. -/
structure Status where
  busy        : Bool
  done        : Bool
  err         : Bool
  negTo       : Bool
  cmdOvr      : Bool
  cfgRcvd     : Bool
  cfgValid    : Bool
  mtuRcvd     : Bool
  resValid    : Bool
  planesValid : Bool
  subscribed  : Bool
  devResValid : Bool
  deriving DecidableEq, Repr

/-- A link request (30_encoding.md R106). -/
inductive LinkReq where
  | connect
  | subscribe
  | unsubscribe
  | disconnect
  | write (bytes : List Byte) (ack : Bool)
  deriving DecidableEq, Repr

/-- An input event (00_scope.md R10), or the reset input (70_reset_and_hazards.md R260). -/
inductive Event where
  | hostWrite (addr data : Word)
  | hostRead (addr : Word)
  | linkRsp (ok : Bool) (maxpl : Nat)
  | notify (bytes : List Byte)
  | tick
  | engine
  /-- The reset input, which may be asserted at any time (70_reset_and_hazards.md R260; assumption log 8). -/
  | resetInput
  deriving DecidableEq, Repr

/-- A memory: (key, value) pairs with strictly rising keys. A key that is not listed has not been written since the
last reset and holds no value here; Ops.lean says what reading it answers. -/
abbrev Memory (w : Nat) := List (Nat × BitVec w)

/-- The machine. The first group of fields is the spec's (10_state.md R20); the last group is the model's own
(assumption log 21). -/
structure State where
  /-- The parameters of 00_scope.md R6; no step changes them (assumption log 4). -/
  cfg         : Params
  /-- `CTRL` (R24). -/
  mode        : Mode
  alg         : Alg
  clearEn     : Bool
  /-- `STATUS` (R27). -/
  status      : Status
  /-- `ERRCODE` (R28). -/
  errcode     : ErrCode
  /-- `IE` (R29). -/
  doneIe      : Bool
  errIe       : Bool
  /-- `SEQ` (R26). -/
  seqState    : SeqState
  wait        : Wait
  plane       : Plane
  /-- `EXP_RES` (R30). -/
  expW        : Half
  expH        : Half
  /-- `RES` (R31). -/
  resW        : Half
  resH        : Half
  /-- `DEV_RES` (R32). -/
  devW        : Half
  devH        : Half
  /-- `TU` (R33). -/
  tu          : Half
  /-- `LINKMAX` (R34). -/
  linkmax     : Half
  /-- `INTERLEAVE` (R35). -/
  interleave  : Half
  /-- `AMP` (R36). -/
  amp         : Byte
  /-- The delay registers (R37). -/
  tNeg        : Half
  tClear      : Half
  tRefresh    : Half
  tPace       : Half
  /-- `EPDCFG0..2` (R38). -/
  epdcfg      : Vector Word 3
  /-- `PLANE_LEN` (R39). -/
  planeLen    : BitVec 24
  packedMode  : Mode
  /-- `CHUNK_IDX`, `CHUNK_CNT` (R40). -/
  chunkIdx    : BitVec 24
  chunkCnt    : BitVec 24
  /-- `IL_CNT` (R41). -/
  ilCnt       : Half
  /-- `NOTIF` (R42). -/
  notifCnt    : Byte
  malfCnt     : Byte
  ignCnt      : Byte
  /-- `KCFG` (R43). -/
  kdiv        : Half
  kanchor     : BitVec 3
  kpreset     : BitVec 4
  /-- `KW0..KW3` (R44). -/
  kw          : Vector Word 4
  /-- `BAYER0..BAYER15` (R45). -/
  bayer       : Vector Word 16
  /-- Pixel memory (R47): the accumulator of channel `c` (R 0, G 1, B 2) of pixel `p` has key `3p + c`. -/
  pix         : Memory 32
  /-- Plane memory (R48): byte `j` has key `j`. -/
  planeMem    : List Host.Cell
  /-- `TIMER` (R49). -/
  timer       : Half
  /-- `CUR_OP` (R50). -/
  curOp       : CurOp
  /-- `CS`, `BASE`, `SEL`, `NPLANES` (R51). -/
  cs          : Half
  base        : BitVec 24
  sel         : Byte
  nplanes     : BitVec 2
  /-- MODEL: the events delivered and not yet processed, oldest first (assumption log 1). -/
  inputs      : List Event
  /-- MODEL: the link requests emitted since power-on, oldest first (assumption log 9). -/
  linkOut     : List LinkReq
  /-- MODEL: the data the last `HostRead` answered (assumption log 9). -/
  rdData      : Word
  /-- MODEL: a wire frame handed to the framer by itself (assumption log 3). -/
  framer      : Option (List Byte)
  /-- MODEL: how many free reads have been made (assumption log 7). -/
  freeIdx     : Nat
  /-- MODEL: how many resets there have been since power-on (assumption log 8). -/
  epoch       : Nat
  deriving DecidableEq, Repr

/-- Why a step stops with a fault: never. No access of the EDTU faults (20_memory.md R88) and it has no traps
(60_exceptions.md R236); errors are recorded in `ERRCODE` and the machine goes on (assumption log 24). Safe: there is no
constructor. -/
inductive Fault where
  deriving DecidableEq, Repr

/-- Why a step gives no next state. -/
inductive Refusal where
  /-- Raised by an arm of `exec` for an instruction without a meaning; no arm does. Safe. -/
  | notModelled (mnemonic : String)
  /-- Raised by the meaning of a vendor frame that the EDTU never emits (45_codec.md R225; assumption log 11). Safe: the unit
  has no path to such a frame. -/
  | vendorFrameNeverEmitted (mnemonic : String)
  /-- Raised by `step` when the framer's own input holds bytes that are no frame of 30_encoding.md R95 to R101
  (assumption log 3). Safe: no event fills that input. -/
  | framerInputNotAFrame
  deriving DecidableEq, Repr

/-- `STATUS` after reset (10_state.md R27). -/
def Status.atReset : Status :=
  { busy := false, done := false, err := false, negTo := false, cmdOvr := false, cfgRcvd := false, cfgValid := false,
    mtuRcvd := false, resValid := false, planesValid := false, subscribed := false, devResValid := false }

/-- `KW0..KW3` after reset: the Floyd–Steinberg weights (10_state.md R44). -/
def kwAtReset : Vector Word 4 := #v[0x00070000#32, 0x01050300#32, 0x00000000#32, 0x00000000#32]

/-- `BAYER0..BAYER15` after reset (10_state.md R45). -/
def bayerAtReset : Vector Word 16 :=
  #v[0x28082000#32, 0x2A0A2202#32, 0x18381030#32, 0x1A3A1232#32, 0x24042C0C#32, 0x26062E0E#32, 0x14341C3C#32,
     0x16361E3E#32, 0x2B0B2303#32, 0x29092101#32, 0x1B3B1333#32, 0x19391131#32, 0x27072F0F#32, 0x25052D0D#32,
     0x17371F3F#32, 0x15351D3D#32]

/-- The machine right after power-on reset (70_reset_and_hazards.md R262). Both memories list nothing: their contents
are unspecified (10_state.md R47, R48). -/
def State.reset : State :=
  { cfg := Sys2Proof.Config.params
    mode := .mono, alg := .plain, clearEn := false
    status := Status.atReset
    errcode := .none
    doneIe := false, errIe := false
    seqState := .disconnected, wait := .idle, plane := .b
    expW := 0, expH := 0
    resW := 0, resH := 0
    devW := 0, devH := 0
    tu := 0, linkmax := 0
    interleave := 62
    amp := 50
    tNeg := 1000, tClear := 200, tRefresh := 500, tPace := 5
    epdcfg := #v[0#32, 0#32, 0#32]
    planeLen := 0, packedMode := .mono
    chunkIdx := 0, chunkCnt := 0
    ilCnt := 0
    notifCnt := 0, malfCnt := 0, ignCnt := 0
    kdiv := 16, kanchor := 1, kpreset := 0
    kw := kwAtReset
    bayer := bayerAtReset
    pix := [], planeMem := []
    timer := 0
    curOp := .none
    cs := 0, base := 0, sel := 0, nplanes := 0
    inputs := [], linkOut := [], rdData := 0, framer := none, freeIdx := 0, epoch := 0 }

end Sys2Proof.Machine
end

