-- ==== Sys2Proof/Machine/Flags.lean ====
section
/-! DEFINITION. The flags: the words `STATUS`, `IE`, `SEQ` and `ERRCODE` as the host reads them, the
write-one-to-clear of `STATUS`, and the interrupt output (10_state.md R26 to R29, 60_exceptions.md R238). -/

namespace Sys2Proof.Machine

/-- The word `STATUS` (10_state.md R27); bits [31:12] read 0. -/
def statusWord (t : Status) : Word :=
  bitAt t.busy 0 ||| bitAt t.done 1 ||| bitAt t.err 2 ||| bitAt t.negTo 3 ||| bitAt t.cmdOvr 4 ||| bitAt t.cfgRcvd 5 |||
  bitAt t.cfgValid 6 ||| bitAt t.mtuRcvd 7 ||| bitAt t.resValid 8 ||| bitAt t.planesValid 9 ||| bitAt t.subscribed 10 |||
  bitAt t.devResValid 11

/-- A host write to `STATUS` clears every W1C bit whose data bit is 1 and changes nothing else (10_state.md R27). -/
def statusClear (data : Word) (t : Status) : Status :=
  { t with
    done   := t.done && !data.getLsbD 1
    err    := t.err && !data.getLsbD 2
    negTo  := t.negTo && !data.getLsbD 3
    cmdOvr := t.cmdOvr && !data.getLsbD 4 }

/-- The code of `SEQ.STATE` (10_state.md R26). -/
def seqStateCode : SeqState → BitVec 4
  | .disconnected => 0
  | .connecting => 1
  | .negotiating => 2
  | .ready => 3
  | .transferring => 4
  | .refreshing => 5
  | .teardown => 6

/-- The code of `SEQ.WAIT` (10_state.md R26). -/
def waitCode : Wait → BitVec 4
  | .idle => 0
  | .connect => 1
  | .subscribe => 2
  | .initAck => 3
  | .negotiate => 4
  | .clearAck => 5
  | .settleClear => 6
  | .chunkAck => 7
  | .pace => 8
  | .refreshAck => 9
  | .settleRefresh => 10
  | .unsubscribe => 11
  | .disconnect => 12
  | .engine => 13

/-- The bit `SEQ.PLANE` (10_state.md R26). -/
def planeBit : Plane → BitVec 1
  | .b => 0
  | .r => 1

/-- The word `SEQ` (10_state.md R26); bits [31:9] read 0. -/
def seqWord (s : State) : Word :=
  (0#23 ++ planeBit s.plane ++ waitCode s.wait ++ seqStateCode s.seqState : BitVec 32)

/-- The code of an error (60_exceptions.md R230). -/
def errByte : ErrCode → Byte
  | .none => 0x00
  | .cfgResolution => 0x01
  | .cfgTransferUnit => 0x02
  | .cfgInterleave => 0x03
  | .cfgCapacity => 0x04
  | .transfer => 0x10
  | .cmdAck => 0x11
  | .linkConnect => 0x20
  | .linkSubscribe => 0x21
  | .linkTeardown => 0x22
  | .illegalCommand => 0x30
  | .sequence => 0x31
  | .illegalAlg => 0x32
  | .badKernel => 0x33
  | .accOverflow => 0x40

/-- The class of an error (60_exceptions.md R230, R231). -/
inductive ErrClass where
  | noError | sessionError | teardownError | localError
  deriving DecidableEq, Repr

/-- The class column of 60_exceptions.md R230. -/
def errClass : ErrCode → ErrClass
  | .none => .noError
  | .cfgResolution => .sessionError
  | .cfgTransferUnit => .sessionError
  | .cfgInterleave => .sessionError
  | .cfgCapacity => .sessionError
  | .transfer => .sessionError
  | .cmdAck => .sessionError
  | .linkConnect => .sessionError
  | .linkSubscribe => .sessionError
  | .linkTeardown => .teardownError
  | .illegalCommand => .localError
  | .sequence => .localError
  | .illegalAlg => .localError
  | .badKernel => .localError
  | .accOverflow => .localError

/-- The word `IE` (10_state.md R29). -/
def ieWord (s : State) : Word := bitAt s.doneIe 0 ||| bitAt s.errIe 1

/-- The interrupt output (60_exceptions.md R238). -/
def irq (s : State) : Bool := (s.status.done && s.doneIe) || (s.status.err && s.errIe)

end Sys2Proof.Machine
end

