-- ==== Sys2Proof/Machine/Ops.lean ====
section
/-! DEFINITION. The named operations over memory, the link port and the sequencer: reading and writing the two
memories, emitting a link request, completing a command, starting teardown, and raising an error, which is the EDTU's
only kind of exception (60_exceptions.md R236). There is no return from an exception: nothing is saved, and the host goes
on with its next command (60_exceptions.md R237). -/

namespace Sys2Proof.Machine

/-! ### Memories -/

/-- What a memory lists for a key; nothing for a key not written since the last reset. -/
def Memory.read {w : Nat} (m : Memory w) (a : Nat) : Option (BitVec w) :=
  match m with
  | [] => none
  | (k, v) :: t => if k = a then some v else Memory.read t a

/-- Write one key, keeping the keys strictly rising. -/
def Memory.write {w : Nat} (m : Memory w) (a : Nat) (v : BitVec w) : Memory w :=
  match m with
  | [] => [(a, v)]
  | (k, u) :: t =>
    if a < k then (a, v) :: (k, u) :: t
    else if a = k then (a, v) :: t
    else (k, u) :: Memory.write t a v

/-- The canonical form of a memory: keys strictly rising. (An unlisted key reads as no value here, so no entry can
equal what an unlisted key reads as.) -/
def Memory.wf {w : Nat} (m : Memory w) : Bool :=
  match m with
  | [] => true
  | (k, _) :: t =>
    match t with
    | [] => true
    | (k', _) :: _ => decide (k < k') && Memory.wf t

/-- Accumulator `i` of pixel memory. One not written since the last reset holds any value (10_state.md R47,
93_implementation_defined.md I1): a free value of Config (assumption log 5). -/
def readAccumulator (s : State) (i : Nat) : BitVec 32 :=
  match Memory.read s.pix i with
  | some v => v
  | none => Sys2Proof.Config.resetAccumulator s.epoch i

/-- Write accumulator `i` of pixel memory. -/
def writeAccumulator (s : State) (i : Nat) (v : BitVec 32) : State :=
  { s with pix := Memory.write s.pix i v }

/-- Byte `j` of plane memory. One not written since the last reset holds any value (10_state.md R48,
93_implementation_defined.md I2): a free value of Config (assumption log 6). -/
def readPlaneByte (s : State) (j : Nat) : Byte :=
  match Memory.read s.planeMem j with
  | some v => v
  | none => Sys2Proof.Config.resetPlaneByte s.epoch j

/-- Write byte `j` of plane memory. -/
def writePlaneByte (s : State) (j : Nat) (v : Byte) : State :=
  { s with planeMem := Memory.write s.planeMem j v }

/-- A colour, or the three accumulators of a pixel, as integers (00_scope.md R11). -/
structure Rgb where
  r : Int
  g : Int
  b : Int
  deriving DecidableEq, Repr

/-- The index of the first accumulator (R) of pixel `p`; G and B follow (assumption log 20). -/
def pixelBase (p : Nat) : Nat := 3 * p

/-- `PIX[p]`, the signed accumulators (10_state.md R47). -/
def readPixel (s : State) (p : Nat) : Rgb :=
  { r := (readAccumulator s (pixelBase p)).toInt
    g := (readAccumulator s (pixelBase p + 1)).toInt
    b := (readAccumulator s (pixelBase p + 2)).toInt }

/-- `PIX[p].c <- 256 * q.c` for the three channels (20_memory.md R77, 41_quantizer.md R134, R135, R140). -/
def writeScaledPixel (s : State) (p : Nat) (q : Rgb) : State :=
  writeAccumulator
    (writeAccumulator
      (writeAccumulator s (pixelBase p) (BitVec.ofInt 32 (256 * q.r)))
      (pixelBase p + 1) (BitVec.ofInt 32 (256 * q.g)))
    (pixelBase p + 2) (BitVec.ofInt 32 (256 * q.b))

/-- The 8-bit view of an accumulator (41_quantizer.md R131). -/
def view (a : Int) : Int := clamp (fdiv a 256) 0 255

/-- The views of a pixel's channels. -/
def viewPixel (s : State) (p : Nat) : Rgb :=
  { r := view (readPixel s p).r, g := view (readPixel s p).g, b := view (readPixel s p).b }

/-! ### Link port, waiting, completion, errors -/

/-- `emit LinkReq(k)` (00_scope.md R13). -/
def emit (k : LinkReq) (s : State) : State := { s with linkOut := s.linkOut ++ [k] }

/-- `wait W` (00_scope.md R13). -/
def waitAt (w : Wait) (s : State) : State := { s with wait := w }

/-- Completion of a command (40_command.md R124). -/
def complete (s : State) : State :=
  if s.errcode = .none then
    { s with curOp := .none, wait := .idle, status := { s.status with busy := false, done := true } }
  else
    { s with curOp := .none, wait := .idle, status := { s.status with busy := false, err := true } }

/-- Teardown start (43_session.md R189). -/
def startTeardown (s : State) : State :=
  { s with
    seqState := .teardown
    status   := { s.status with subscribed := false }
    linkOut  := s.linkOut ++ [.unsubscribe]
    wait     := .unsubscribe }

/-- `ERRCODE` is written only while it is 0 (60_exceptions.md R235, R236). -/
def recordError (code : ErrCode) (s : State) : State :=
  if s.errcode = .none then { s with errcode := code } else s

/-- `raise Error(code)` (60_exceptions.md R236): record the code; a local error completes the command, a session error
starts teardown, a teardown error is only recorded. -/
def raiseError (code : ErrCode) (s : State) : State :=
  match errClass code with
  | .noError => s
  | .localError => complete (recordError code s)
  | .sessionError => startTeardown (recordError code s)
  | .teardownError => recordError code s

/-- The dispatcher (40_command.md R120, R121): a command presented while BUSY is dropped and sets CMD_OVR; otherwise
DONE, ERR and ERRCODE are cleared and the command runs. -/
def present (command : State → State) (s : State) : State :=
  if s.status.busy then { s with status := { s.status with cmdOvr := true } }
  else command { s with status := { s.status with done := false, err := false }, errcode := .none }

/-- Acceptance of a long command (40_command.md R122). -/
def accept (op : CurOp) (s : State) : State :=
  { s with curOp := op, status := { s.status with busy := true } }

/-- Load TIMER and wait at a timed wait point, or go on at once if the delay is 0 (10_state.md R37, R49;
43_session.md R173; 44_transfer.md R201, R207, R210). -/
def startTimer (delay : Half) (w : Wait) (goOn : State → State) (s : State) : State :=
  if delay = 0 then goOn { s with timer := delay } else { s with timer := delay, wait := w }

/-- A tick at a timed wait point (60_exceptions.md R245; 43_session.md R182; 44_transfer.md R202, R208, R211). -/
def countTick (goOn : State → State) (s : State) : State :=
  if s.timer - 1 = 0 then goOn { s with timer := s.timer - 1 } else { s with timer := s.timer - 1 }

end Sys2Proof.Machine
end

