-- ==== Sys2Proof/Machine/Operands.lean ====
section
/-! DEFINITION. Where a host access goes and what it reads or stores (10_state.md R22 to R46, 20_memory.md R70 to
R77), and the operands the commands take from registers (30_encoding.md R94): the kernel grid, the threshold matrix, the
palette, the model map. -/

namespace Sys2Proof.Machine

open Sys2Proof.Config (Params ModelEntry)

/-! ### The register map -/

/-- The registers of 10_state.md R22. -/
inductive Reg where
  | id | ctrl | cmd | status | errcode | ie | seq | expRes | res | devRes | tu | linkmax | interleave | amp
  | tNeg | tClear | tRefresh | tPace
  | epdcfg (k : Fin 3)
  | planeLen | chunkIdx | chunkCnt | ilCnt | notif | kcfg
  | kw (k : Fin 4)
  | bayer (k : Fin 16)
  deriving DecidableEq, Repr

/-- The register map: offset and register (10_state.md R22). -/
def regTable : List (Nat × Reg) :=
  [(0x000, .id), (0x004, .ctrl), (0x008, .cmd), (0x00C, .status), (0x010, .errcode), (0x014, .ie), (0x018, .seq),
   (0x01C, .expRes), (0x020, .res), (0x024, .devRes), (0x028, .tu), (0x02C, .linkmax), (0x030, .interleave),
   (0x034, .amp), (0x038, .tNeg), (0x03C, .tClear), (0x040, .tRefresh), (0x044, .tPace), (0x048, .epdcfg 0),
   (0x04C, .epdcfg 1), (0x050, .epdcfg 2), (0x054, .planeLen), (0x058, .chunkIdx), (0x05C, .chunkCnt),
   (0x060, .ilCnt), (0x064, .notif), (0x068, .kcfg), (0x06C, .kw 0), (0x070, .kw 1), (0x074, .kw 2), (0x078, .kw 3),
   (0x080, .bayer 0), (0x084, .bayer 1), (0x088, .bayer 2), (0x08C, .bayer 3), (0x090, .bayer 4), (0x094, .bayer 5),
   (0x098, .bayer 6), (0x09C, .bayer 7), (0x0A0, .bayer 8), (0x0A4, .bayer 9), (0x0A8, .bayer 10), (0x0AC, .bayer 11),
   (0x0B0, .bayer 12), (0x0B4, .bayer 13), (0x0B8, .bayer 14), (0x0BC, .bayer 15)]

/-- The value a table gives for a key. -/
def lookupTable {α : Type} (t : List (Nat × α)) (a : Nat) : Option α :=
  match t with
  | [] => none
  | (k, v) :: rest => if k = a then some v else lookupTable rest a

/-- What a host address reaches (20_memory.md R70). -/
inductive Target where
  | reg (r : Reg)
  /-- Word `j` of the plane window: bytes `4j` to `4j + 3` (R72). -/
  | planeWord (j : Nat)
  /-- Pixel `p` of the pixel window (R73). -/
  | pixel (p : Nat)
  /-- A reserved register offset (10_state.md R46), or an address in no region (R75). -/
  | unmapped
  deriving DecidableEq, Repr

/-- The target of a host access: address bits [1:0] are ignored (20_memory.md R74), then the region decides
(R70 to R73, R75). -/
def hostTarget (p : Params) (addr : Word) : Target :=
  let w := addr.toNat / 4
  if w < 0x4000 then
    match lookupTable regTable (4 * w) with
    | some r => .reg r
    | none => .unmapped
  else if w < 0x4000 + ceilDiv p.planeCap 4 then .planeWord (w - 0x4000)
  else if 0x400000 ≤ w ∧ w < 0x400000 + p.pixCap then .pixel (w - 0x400000)
  else .unmapped

/-! ### Register reads and writes -/

/-- The bit `CTRL.MODE` (10_state.md R24). -/
def modeBit : Mode → Bool
  | .mono => false
  | .tri => true

/-- `CTRL.MODE` from its bit. -/
def modeOfBit (b : Bool) : Mode := if b then .tri else .mono

/-- The field `CTRL.ALG` (10_state.md R24). -/
def algField : Alg → BitVec 2
  | .plain => 0
  | .errorDiffusion => 1
  | .ordered => 2
  | .reserved => 3

/-- `CTRL.ALG` from its field; every value is stored as written (10_state.md R24). -/
def algOfField (f : BitVec 2) : Alg :=
  if f = 0 then .plain else if f = 1 then .errorDiffusion else if f = 2 then .ordered else .reserved

/-- The writable bits of `KW(k)`: byte 15 is reserved (10_state.md R44). -/
def kwMask (k : Fin 4) : Word := if k = 3 then 0x00FFFFFF else 0xFFFFFFFF

/-- The writable bits of a `BAYER` word: bits [7:6] of each byte are reserved (10_state.md R45). -/
def bayerMask : Word := 0x3F3F3F3F

/-- What a host read of a register returns (10_state.md R22 to R46). -/
def readReg (s : State) : Reg → Word
  | .id => 0x45445455
  | .ctrl => bitAt (modeBit s.mode) 0 ||| ((algField s.alg).setWidth 32 <<< 1) ||| bitAt s.clearEn 3
  | .cmd => 0
  | .status => statusWord s.status
  | .errcode => (errByte s.errcode).setWidth 32
  | .ie => ieWord s
  | .seq => seqWord s
  | .expRes => halves s.expW s.expH
  | .res => halves s.resW s.resH
  | .devRes => halves s.devW s.devH
  | .tu => s.tu.setWidth 32
  | .linkmax => s.linkmax.setWidth 32
  | .interleave => s.interleave.setWidth 32
  | .amp => s.amp.setWidth 32
  | .tNeg => s.tNeg.setWidth 32
  | .tClear => s.tClear.setWidth 32
  | .tRefresh => s.tRefresh.setWidth 32
  | .tPace => s.tPace.setWidth 32
  | .epdcfg k => s.epdcfg[k]
  | .planeLen => s.planeLen.setWidth 32 ||| bitAt (modeBit s.packedMode) 24
  | .chunkIdx => s.chunkIdx.setWidth 32
  | .chunkCnt => s.chunkCnt.setWidth 32
  | .ilCnt => s.ilCnt.setWidth 32
  | .notif => wordOf s.notifCnt s.malfCnt s.ignCnt 0
  | .kcfg => s.kdiv.setWidth 32 ||| (s.kanchor.setWidth 32 <<< 16) ||| (s.kpreset.setWidth 32 <<< 24)
  | .kw k => s.kw[k] &&& kwMask k
  | .bayer k => s.bayer[k] &&& bayerMask

/-- What a host write stores in the writable fields of a register other than `CMD` (10_state.md R22): nothing for a
read-only register, the write-one-to-clear for `STATUS` (R27). -/
def writeReg (d : Word) (s : State) : Reg → State
  | .ctrl => { s with mode := modeOfBit (d.getLsbD 0), alg := algOfField (d.extractLsb' 1 2), clearEn := d.getLsbD 3 }
  | .status => { s with status := statusClear d s.status }
  | .ie => { s with doneIe := d.getLsbD 0, errIe := d.getLsbD 1 }
  | .expRes => { s with expW := d.extractLsb' 0 16, expH := d.extractLsb' 16 16 }
  | .interleave => { s with interleave := d.extractLsb' 0 16 }
  | .amp => { s with amp := d.extractLsb' 0 8 }
  | .tNeg => { s with tNeg := d.extractLsb' 0 16 }
  | .tClear => { s with tClear := d.extractLsb' 0 16 }
  | .tRefresh => { s with tRefresh := d.extractLsb' 0 16 }
  | .tPace => { s with tPace := d.extractLsb' 0 16 }
  | .kcfg => { s with kdiv := d.extractLsb' 0 16, kanchor := d.extractLsb' 16 3, kpreset := d.extractLsb' 24 4 }
  | .kw k => { s with kw := s.kw.set k (d &&& kwMask k) }
  | .bayer k => { s with bayer := s.bayer.set k (d &&& bayerMask) }
  | .id => s
  | .cmd => s
  | .errcode => s
  | .seq => s
  | .res => s
  | .devRes => s
  | .tu => s
  | .linkmax => s
  | .epdcfg _ => s
  | .planeLen => s
  | .chunkIdx => s
  | .chunkCnt => s
  | .ilCnt => s
  | .notif => s

/-- Is a write to this register taken while BUSY? Only `STATUS` and `IE` are (20_memory.md R82,
70_reset_and_hazards.md R266). -/
def writableWhileBusy : Reg → Bool
  | .status => true
  | .ie => true
  | _ => false

/-- A byte of the plane window: a byte at or beyond `PLANE_CAP` reads 0 (20_memory.md R72). -/
def planeWindowByte (s : State) (j : Nat) : Byte :=
  if j < s.cfg.planeCap then readPlaneByte s j else 0

/-- Word `j` of the plane window (20_memory.md R72). -/
def planeWindowWord (s : State) (j : Nat) : Word :=
  wordOf (planeWindowByte s (4 * j)) (planeWindowByte s (4 * j + 1)) (planeWindowByte s (4 * j + 2))
    (planeWindowByte s (4 * j + 3))

/-- The word of pixel `p`: `{0, view B, view G, view R}` (20_memory.md R77). -/
def pixelWord (s : State) (p : Nat) : Word :=
  wordOf (BitVec.ofInt 8 (viewPixel s p).r) (BitVec.ofInt 8 (viewPixel s p).g) (BitVec.ofInt 8 (viewPixel s p).b) 0

/-- A host write to the word of pixel `p` loads its three channels (20_memory.md R77). -/
def loadPixel (s : State) (p : Nat) (d : Word) : State :=
  writeScaledPixel s p
    { r := ((byteOf d 0).toNat : Int), g := ((byteOf d 1).toNat : Int), b := ((byteOf d 2).toNat : Int) }

/-! ### Operands the commands read -/

/-- `KW[r][c]`: byte `5r + c` of the kernel table (10_state.md R44). -/
def kernelWeight (s : State) (r c : Nat) : Nat :=
  (byteOf (s.kw.toList.getD ((5 * r + c) / 4) 0) ((5 * r + c) % 4)).toNat

/-- `BAYER[i]` (10_state.md R45). -/
def bayerEntry (s : State) (i : Nat) : Nat :=
  ((s.bayer.toList.getD (i / 4) 0).extractLsb' (8 * (i % 4)) 6).toNat

/-- `model_id`, byte 7 of the config record (10_state.md R38). -/
def modelId (s : State) : Byte := byteOf s.epdcfg[1] 3

/-- `MODEL_RES(m)`: the entry of an identifier, if it has one (00_scope.md R6). -/
def lookupModel (entries : List ModelEntry) (m : Byte) : Option (Half × Half) :=
  match entries with
  | [] => none
  | e :: t => if e.id = m then some (e.width, e.height) else lookupModel t m

/-- Black (41_quantizer.md R130). -/
def black : Rgb := { r := 0, g := 0, b := 0 }

/-- White (41_quantizer.md R130). -/
def white : Rgb := { r := 255, g := 255, b := 255 }

/-- Red (41_quantizer.md R130). -/
def red : Rgb := { r := 255, g := 0, b := 0 }

/-- The palette of a mode, in its order (41_quantizer.md R130). -/
def palette : Mode → List Rgb
  | .mono => [black, white]
  | .tri => [black, white, red]

/-- `L = ceil_div(W, 8) * H` (42_bitplane.md R161, R168). -/
def planeBytes (w h : Nat) : Nat := ceilDiv w 8 * h

/-- The plane selector byte (30_encoding.md R98). -/
def planeSelector (p : Params) : Plane → Byte
  | .b => p.hdrSel0
  | .r => p.hdrSel1

/-- A plane's number: B is 0, R is 1 (44_transfer.md R203). -/
def planeIndex : Plane → Nat
  | .b => 0
  | .r => 1

end Sys2Proof.Machine
end

