-- ==== Sys2Proof/Machine/Command.lean ====
section
/-! DEFINITION. The immediate commands NOP and the illegal opcodes (40_command.md R125, R126). -/

namespace Sys2Proof.Machine

/-- NOP (40_command.md R125): it completes. -/
def execNop (s : State) : Host.Outcome State Fault Refusal := .next (present complete s)

/-- A reserved OP (40_command.md R126): it raises ILLEGAL_COMMAND, whatever the OP. -/
def execIllegal (_op : Byte) (s : State) : Host.Outcome State Fault Refusal :=
  .next (present (raiseError .illegalCommand) s)

end Sys2Proof.Machine
end

