-- ==== Sys2Proof/Machine/Quantizer.lean ====
section
/-! DEFINITION. The quantizer: QUANT and LDKERN, and the pass the compute engine runs (41_quantizer.md). -/

namespace Sys2Proof.Machine

/-! ### Nearest colour -/

/-- The squared distance of `q` to the colour `c` at scale `sc` (41_quantizer.md R132). -/
def dist (sc : Int) (q c : Rgb) : Int :=
  (q.r - sc * c.r) * (q.r - sc * c.r) + (q.g - sc * c.g) * (q.g - sc * c.g) + (q.b - sc * c.b) * (q.b - sc * c.b)

/-- The first of `c` and the colours after it that is nearest to `q`: a later colour wins only if it is strictly
nearer, so a tie goes to the lower index (41_quantizer.md R132). -/
def nearestFrom (sc : Int) (q c : Rgb) (later : List Rgb) : Rgb :=
  match later with
  | [] => c
  | d :: rest => if dist sc q d < dist sc q c then nearestFrom sc q d rest else nearestFrom sc q c rest

/-- `pal[nearest(q, sc)]` for the palette of a mode (41_quantizer.md R130, R132). -/
def nearestColour (m : Mode) (sc : Int) (q : Rgb) : Rgb :=
  match palette m with
  | [] => black
  | c :: later => nearestFrom sc q c later

/-! ### The three pixel steps -/

/-- `none_pixel(p)` (41_quantizer.md R134). -/
def plainPixel (s : State) (p : Nat) : State :=
  writeScaledPixel s p (nearestColour s.mode 1 (viewPixel s p))

/-- The column of pixel `p` in an image of width `w` (00_scope.md R14). -/
def pixelX (w p : Nat) : Nat := p % w

/-- The row of pixel `p` in an image of width `w` (00_scope.md R14). -/
def pixelY (w p : Nat) : Nat := p / w

/-- The threshold of pixel `p` (41_quantizer.md R140). -/
def threshold (s : State) (p : Nat) : Nat :=
  bayerEntry s (8 * (pixelY s.resW.toNat p % 8) + pixelX s.resW.toNat p % 8)

/-- The perturbed channel value, scaled by 128 and clipped (41_quantizer.md R140). -/
def perturbed (t amp : Nat) (v : Int) : Int :=
  clamp (128 * v + (2 * (t : Int) - 64) * (amp : Int)) 0 (128 * 255)

/-- `od_pixel(p)` (41_quantizer.md R140). -/
def orderedPixel (s : State) (p : Nat) : State :=
  let v := viewPixel s p
  let f := perturbed (threshold s p) s.amp.toNat
  writeScaledPixel s p (nearestColour s.mode 128 { r := f v.r, g := f v.g, b := f v.b })

/-- A pass that may stop: it goes on with a state, or has raised ACC_OVERFLOW in one (41_quantizer.md R138). -/
inductive Pass where
  | going (s : State)
  | overflowed (s : State)
  deriving DecidableEq, Repr

/-- Do `f` for each element in turn, stopping at the first overflow. -/
def runAll {α : Type} (f : α → State → Pass) (l : List α) (s : State) : Pass :=
  match l with
  | [] => .going s
  | a :: rest =>
    match f a s with
    | .going s' => runAll f rest s'
    | .overflowed s' => .overflowed s'

/-- The cells of the kernel grid, row by row (41_quantizer.md R135). -/
def kernelGrid : List (Nat × Nat) :=
  [(0, 0), (0, 1), (0, 2), (0, 3), (0, 4), (1, 0), (1, 1), (1, 2), (1, 3), (1, 4), (2, 0), (2, 1), (2, 2), (2, 3), (2, 4)]

/-- The pixel that kernel cell `(r, cc)` addresses from pixel `p`, if the cell propagates: its weight is not 0, it
addresses an unprocessed pixel, and the target lies in the image (41_quantizer.md R135, R136). -/
def kernelTarget (s : State) (p : Nat) (cell : Nat × Nat) : Option Nat :=
  let w := s.resW.toNat
  let h := s.resH.toNat
  let a := s.kanchor.toNat
  let x := pixelX w p
  let y := pixelY w p
  if kernelWeight s cell.1 cell.2 ≠ 0 ∧ (0 < cell.1 ∨ a < cell.2) ∧ a ≤ x + cell.2 ∧ x + cell.2 - a < w ∧ y + cell.1 < h
  then some ((y + cell.1) * w + (x + cell.2 - a))
  else none

/-- The share of an error that a weight adds (41_quantizer.md R137). DESIGN CHOICE for a divisor of 0, for which
00_scope.md R12 does not define `fdiv`: the share is then 0, as Lean's `Int.fdiv` answers. QUANT turns `KDIV = 0` away
(R150), so no run reaches it (assumption log 28). -/
def errorShare (e : Int) (weight : Nat) (divisor : Nat) : Int := fdiv (e * (weight : Int)) (divisor : Int)

/-- The accumulator updates of one kernel cell: accumulator index and share, channel by channel (41_quantizer.md
R135). -/
def cellShares (s : State) (p : Nat) (e : Rgb) (cell : Nat × Nat) : List (Nat × Int) :=
  match kernelTarget s p cell with
  | none => []
  | some q =>
    let share := fun x => errorShare x (kernelWeight s cell.1 cell.2) s.kdiv.toNat
    [(pixelBase q, share e.r), (pixelBase q + 1, share e.g), (pixelBase q + 2, share e.b)]

/-- One accumulator update, checked against the signed 32-bit range before it is made (41_quantizer.md R138). -/
def addShare (u : Nat × Int) (s : State) : Pass :=
  let t := (readAccumulator s u.1).toInt + u.2
  if t < -2147483648 ∨ 2147483647 < t then .overflowed s
  else .going (writeAccumulator s u.1 (BitVec.ofInt 32 t))

/-- One pixel of the error-diffusion pass (41_quantizer.md R135): the nearest colour of the raw accumulators is written
back and the error is spread over the kernel. -/
def diffusePixel (p : Nat) (s : State) : Pass :=
  let a := readPixel s p
  let c := nearestColour s.mode 256 a
  let e : Rgb := { r := a.r - 256 * c.r, g := a.g - 256 * c.g, b := a.b - 256 * c.b }
  runAll addShare (kernelGrid.flatMap (cellShares s p e)) (writeScaledPixel s p c)

/-! ### The commands -/

/-- The number of pixels of the resolved image (10_state.md R31). -/
def pixelCount (s : State) : Nat := s.resW.toNat * s.resH.toNat

/-- The pass of QUANT in the `Engine` event (41_quantizer.md R133). ALG 3 is turned away at acceptance and cannot be
written while BUSY, so no run reaches it here (assumption log 19). -/
def runQuant (s : State) : State :=
  match s.alg with
  | .plain => complete ((List.range (pixelCount s)).foldl plainPixel s)
  | .errorDiffusion =>
    match runAll diffusePixel (List.range (pixelCount s)) s with
    | .going s' => complete s'
    | .overflowed s' => raiseError .accOverflow s'
  | .ordered => complete ((List.range (pixelCount s)).foldl orderedPixel s)
  | .reserved => complete s

/-- READY with a resolution: the precondition of QUANT and PACK, and part of XFER's (40_command.md R127). -/
def imageReady (s : State) : Bool := decide (s.seqState = .ready) && s.status.resValid

/-- QUANT's own acceptance (41_quantizer.md R133, R150), in the order of 60_exceptions.md R235. -/
def acceptQuant (s : State) : State :=
  if imageReady s = false then raiseError .sequence s
  else if s.alg = .reserved then raiseError .illegalAlg s
  else if s.alg = .errorDiffusion ∧ (s.kdiv = 0 ∨ 4 < s.kanchor.toNat) then raiseError .badKernel s
  else waitAt .engine (accept .quantOp s)

/-- QUANT (41_quantizer.md R133). -/
def execQuant (s : State) : Host.Outcome State Fault Refusal := .next (present acceptQuant s)

/-- One kernel preset: anchor, divisor and the words of `KW` (41_quantizer.md R152). -/
structure Kernel where
  anchor  : BitVec 3
  divisor : Half
  weights : Vector Word 4
  deriving DecidableEq, Repr

/-- The kernel presets (41_quantizer.md R152), presets 0 to 5. -/
def kernelPresets : List Kernel :=
  [{ anchor := 1, divisor := 16, weights := #v[0x00070000#32, 0x01050300#32, 0x00000000#32, 0x00000000#32] },
   { anchor := 2, divisor := 48, weights := #v[0x07000000#32, 0x07050305#32, 0x03010305#32, 0x00010305#32] },
   { anchor := 2, divisor := 42, weights := #v[0x08000000#32, 0x08040204#32, 0x02010204#32, 0x00010204#32] },
   { anchor := 2, divisor := 32, weights := #v[0x08000000#32, 0x08040204#32, 0x00000204#32, 0x00000000#32] },
   { anchor := 2, divisor := 32, weights := #v[0x05000000#32, 0x05040203#32, 0x02000204#32, 0x00000203#32] },
   { anchor := 1, divisor := 8, weights := #v[0x01010000#32, 0x01010100#32, 0x01000000#32, 0x00000000#32] }]

/-- LDKERN's own steps (41_quantizer.md R151). -/
def loadKernel (s : State) : State :=
  match kernelPresets[s.kpreset.toNat]? with
  | none => raiseError .badKernel s
  | some k => complete { s with kanchor := k.anchor, kdiv := k.divisor, kw := k.weights }

/-- LDKERN (41_quantizer.md R151). -/
def execLdkern (s : State) : Host.Outcome State Fault Refusal := .next (present loadKernel s)

end Sys2Proof.Machine
end

