-- ==== Sys2Proof/Machine/Packer.lean ====
section
/-! DEFINITION. The bit-plane packer: PACK and the pass the compute engine runs (42_bitplane.md). -/

namespace Sys2Proof.Machine

/-- The monochrome bit (42_bitplane.md R164). -/
def monoBit (v : Rgb) : Bool := decide (128 < v.r)

/-- The classes of 42_bitplane.md R165. -/
inductive Class where
  | blackClass | whiteClass | redClass
  deriving DecidableEq, Repr

/-- The three-way classification (42_bitplane.md R165). -/
def classify (v : Rgb) : Class :=
  if v.r < 128 ∧ v.g < 128 ∧ v.b < 128 then .blackClass
  else if 128 < v.r ∧ 128 < v.g ∧ 128 < v.b then .whiteClass
  else .redClass

/-- The bits of a class: plane B, plane R (42_bitplane.md R166). -/
def classBits : Class → Bool × Bool
  | .blackClass => (false, true)
  | .whiteClass => (true, true)
  | .redClass => (true, false)

/-- The bits a pixel sets: plane B, and plane R in tri-colour mode (42_bitplane.md R160). -/
def pixelBits (m : Mode) (v : Rgb) : Bool × Bool :=
  match m with
  | .mono => (monoBit v, false)
  | .tri => classBits (classify v)

/-- Set bit `7 - (x mod 8)` of a plane byte (42_bitplane.md R161); nothing is ever cleared (R163). -/
def setPlaneBit (s : State) (j x : Nat) (bit : Bool) : State :=
  if bit then writePlaneByte s j (readPlaneByte s j ||| (1#8 <<< (7 - x % 8))) else s

/-- The byte of a plane that holds pixel `(x, y)` (42_bitplane.md R161). -/
def planeByteOf (w x y : Nat) : Nat := y * ceilDiv w 8 + x / 8

/-- One pixel of the packing pass (42_bitplane.md R160). -/
def packPixel (s : State) (p : Nat) : State :=
  let w := s.resW.toNat
  let x := pixelX w p
  let j := planeByteOf w x (pixelY w p)
  let bits := pixelBits s.mode (viewPixel s p)
  setPlaneBit (setPlaneBit s j x bits.1) (planeBytes w s.resH.toNat + j) x bits.2

/-- Zero one plane byte (42_bitplane.md R163). -/
def zeroPlaneByte (s : State) (j : Nat) : State := writePlaneByte s j 0#8

/-- The number of planes a mode packs (42_bitplane.md R160). -/
def planeCount : Mode → Nat
  | .mono => 1
  | .tri => 2

/-- The planes of PACK: zeroed, then set pixel by pixel (42_bitplane.md R160, R163). -/
def packPlanes (s : State) : State :=
  (List.range (pixelCount s)).foldl packPixel
    ((List.range (planeCount s.mode * planeBytes s.resW.toNat s.resH.toNat)).foldl zeroPlaneByte s)

/-- The pass of PACK in the `Engine` event (42_bitplane.md R160). -/
def runPack (s : State) : State :=
  let t := packPlanes s
  complete
    { t with
      planeLen   := BitVec.ofNat 24 (planeBytes s.resW.toNat s.resH.toNat)
      packedMode := s.mode
      status     := { t.status with planesValid := true } }

/-- PACK's own acceptance (42_bitplane.md R160, 40_command.md R127). -/
def acceptPack (s : State) : State :=
  if imageReady s = false then raiseError .sequence s
  else waitAt .engine (accept .packOp s)

/-- PACK (42_bitplane.md R160). -/
def execPack (s : State) : Host.Outcome State Fault Refusal := .next (present acceptPack s)

end Sys2Proof.Machine
end

