-- ==== Sys2Proof/Machine/Notification.lean ====
section
/-! DEFINITION. The notification formats (30_encoding.md R102 to R105): the text decoder and the `mtu=` matcher. -/

namespace Sys2Proof.Machine

/-- Does a byte lie in `lo..hi`? -/
def byteIn (lo hi : Nat) (b : Byte) : Bool := decide (lo ≤ b.toNat) && decide (b.toNat ≤ hi)

/-- The range of the second byte of a sequence of three, by its first byte (30_encoding.md R104). -/
def secondOfThree (b0 b1 : Byte) : Bool :=
  if b0.toNat = 0xE0 then byteIn 0xA0 0xBF b1
  else if b0.toNat = 0xED then byteIn 0x80 0x9F b1
  else byteIn 0x80 0xBF b1

/-- The range of the second byte of a sequence of four, by its first byte (30_encoding.md R104). -/
def secondOfFour (b0 b1 : Byte) : Bool :=
  if b0.toNat = 0xF0 then byteIn 0x90 0xBF b1
  else if b0.toNat = 0xF4 then byteIn 0x80 0x8F b1
  else byteIn 0x80 0xBF b1

/-- The length of the sequence a first byte opens, 0 if it opens none (30_encoding.md R104). -/
def sequenceLength (b0 : Byte) : Nat :=
  if byteIn 0x00 0x7F b0 then 1
  else if byteIn 0xC2 0xDF b0 then 2
  else if byteIn 0xE0 0xEF b0 then 3
  else if byteIn 0xF0 0xF4 b0 then 4
  else 0

/-- Well-formed UTF-8 (30_encoding.md R104): a concatenation of the sequences of its table. -/
def utf8Ok : List Byte → Bool
  | [] => true
  | b0 :: rest =>
    match sequenceLength b0 with
    | 1 => utf8Ok rest
    | 2 =>
      match rest with
      | b1 :: rest2 => byteIn 0x80 0xBF b1 && utf8Ok rest2
      | [] => false
    | 3 =>
      match rest with
      | b1 :: b2 :: rest3 => secondOfThree b0 b1 && byteIn 0x80 0xBF b2 && utf8Ok rest3
      | _ => false
    | 4 =>
      match rest with
      | b1 :: b2 :: b3 :: rest4 => secondOfFour b0 b1 && byteIn 0x80 0xBF b2 && byteIn 0x80 0xBF b3 && utf8Ok rest4
      | _ => false
    | _ => false

/-- Is a byte an ASCII decimal digit? -/
def isDigit (b : Byte) : Bool := byteIn 0x30 0x39 b

/-- The value of decimal digits, most significant first, after the value `acc` (30_encoding.md R103). -/
def decimalValue (acc : Nat) (digits : List Byte) : Nat :=
  match digits with
  | [] => acc
  | d :: rest => decimalValue (10 * acc + (d.toNat - 0x30)) rest

/-- The value of the digits of `mtu=<n>`: one or more ASCII digits, value at most 65535 (30_encoding.md R103). -/
def mtuDigits (digits : List Byte) : Option Half :=
  if digits.length = 0 then none
  else if digits.all isDigit = false then none
  else if 65535 < decimalValue 0 digits then none
  else some (BitVec.ofNat 16 (decimalValue 0 digits))

/-- The value of an MTU notification, none for a payload that does not match (30_encoding.md R103). -/
def mtuMatch (bytes : List Byte) : Option Half :=
  match bytes with
  | b0 :: b1 :: b2 :: b3 :: digits =>
    if b0 = 0x6D#8 ∧ b1 = 0x74#8 ∧ b2 = 0x75#8 ∧ b3 = 0x3D#8 then mtuDigits digits else none
  | _ => none

end Sys2Proof.Machine
end

