-- ==== Sys2Proof/Machine/Wire.lean ====
section
/-! DEFINITION. The wire frames (45_codec.md): what issuing each does. The sequencer issues INIT, CLEAR, REFRESH and
WRITE_IMG from the rules that emit them; each acknowledged frame is the last request of its event and puts the sequencer at the
wait point that names it (60_exceptions.md R248). The vendor frames are never issued (45_codec.md R225). -/

namespace Sys2Proof.Machine

/-- Issue a frame with an empty payload and wait for its response (45_codec.md R220 to R223, 60_exceptions.md R248). -/
def issueBare (op : Byte) (w : Wait) (s : State) : State :=
  waitAt w (emit (.write (frameBytes op []) true) s)

/-- Issue INIT (45_codec.md R221, 43_session.md R172). -/
def issueInit (s : State) : State := issueBare s.cfg.opInit .initAck s

/-- Issue CLEAR (45_codec.md R222, 44_transfer.md R200). -/
def issueClear (s : State) : State := issueBare s.cfg.opClear .clearAck s

/-- Issue REFRESH (45_codec.md R223, 44_transfer.md R209). -/
def issueRefresh (s : State) : State := issueBare s.cfg.opRefresh .refreshAck s

/-- Is the next chunk acknowledged? The counter reaches 0 with it, or it is the plane's last (44_transfer.md R204,
R206). -/
def nextChunkAcked (s : State) : Bool :=
  decide (s.ilCnt - 1 = 0) || decide (s.chunkIdx.toNat + 1 = s.chunkCnt.toNat)

/-- Issue one WRITE_IMG (45_codec.md R224): one turn of the loop of 44_transfer.md R204 with the given header and chunk. -/
def issueChunk (hdr : Byte) (chunk : List Byte) (s : State) : State :=
  { s with
    ilCnt    := s.ilCnt - 1
    linkOut  := s.linkOut ++ [.write (frameBytes s.cfg.opWriteImg (hdr :: chunk)) (nextChunkAcked s)]
    chunkIdx := s.chunkIdx + 1
    wait     := if nextChunkAcked s then .chunkAck else s.wait }

/-- INIT (45_codec.md R221). -/
def execInit (s : State) : Host.Outcome State Fault Refusal := .next (issueInit s)

/-- CLEAR (45_codec.md R222). -/
def execClear (s : State) : Host.Outcome State Fault Refusal := .next (issueClear s)

/-- REFRESH (45_codec.md R223). -/
def execRefresh (s : State) : Host.Outcome State Fault Refusal := .next (issueRefresh s)

/-- WRITE_IMG (45_codec.md R224). -/
def execWriteImg (hdr : Byte) (chunk : List Byte) (s : State) : Host.Outcome State Fault Refusal :=
  .next (issueChunk hdr chunk s)

/-- PIN_CONFIG: the EDTU has no path that emits it (45_codec.md R225, 30_encoding.md R101). -/
def execPinConfig (_payload : List Byte) (_s : State) : Host.Outcome State Fault Refusal :=
  .refused (.vendorFrameNeverEmitted "PIN_CONFIG")

/-- SLEEP: the EDTU has no path that emits it (45_codec.md R225, 60_exceptions.md R243). -/
def execSleep (_payload : List Byte) (_s : State) : Host.Outcome State Fault Refusal :=
  .refused (.vendorFrameNeverEmitted "SLEEP")

/-- RESET: the EDTU has no path that emits it (45_codec.md R225, 30_encoding.md R101). -/
def execVendorReset (_payload : List Byte) (_s : State) : Host.Outcome State Fault Refusal :=
  .refused (.vendorFrameNeverEmitted "RESET")

/-- CONFIG_ERASE: the EDTU has no path that emits it (45_codec.md R225, 30_encoding.md R101). -/
def execConfigErase (_payload : List Byte) (_s : State) : Host.Outcome State Fault Refusal :=
  .refused (.vendorFrameNeverEmitted "CONFIG_ERASE")

end Sys2Proof.Machine
end

