-- ==== Sys2Proof/Machine/Session.lean ====
section
/-! DEFINITION. The session: OPEN, CLOSE, the notification receiver, negotiation and teardown (43_session.md). -/

namespace Sys2Proof.Machine

/-! ### OPEN: connect and subscribe -/

/-- What the acceptance of OPEN clears (10_state.md R55). -/
def clearSession (s : State) : State :=
  { s with
    status :=
      { s.status with
        negTo := false, cfgRcvd := false, cfgValid := false, mtuRcvd := false, resValid := false,
        planesValid := false, devResValid := false }
    epdcfg := #v[0#32, 0#32, 0#32]
    resW := 0, resH := 0, devW := 0, devH := 0, tu := 0, linkmax := 0
    planeLen := 0, packedMode := .mono
    chunkIdx := 0, chunkCnt := 0, ilCnt := 0
    notifCnt := 0, malfCnt := 0, ignCnt := 0
    plane := .b }

/-- OPEN's own acceptance (43_session.md R170). -/
def acceptOpen (s : State) : State :=
  if s.seqState = .disconnected then
    waitAt .connect (emit .connect { accept .openOp (clearSession s) with seqState := .connecting })
  else raiseError .sequence s

/-- OPEN (43_session.md R170). -/
def execOpen (s : State) : Host.Outcome State Fault Refusal := .next (present acceptOpen s)

/-- The response to CONNECT (43_session.md R171). -/
def onConnectRsp (ok : Bool) (maxpl : Nat) (s : State) : State :=
  if ok then waitAt .subscribe (emit .subscribe { s with linkmax := BitVec.ofNat 16 (min maxpl 65535) })
  else raiseError .linkConnect s

/-- The response to SUBSCRIBE (43_session.md R172). -/
def onSubscribeRsp (ok : Bool) (s : State) : State :=
  if ok then issueInit { s with status := { s.status with subscribed := true }, seqState := .negotiating }
  else raiseError .linkSubscribe s

/-! ### Negotiation end -/

/-- The resolution policy: explicit if both dimensions are given, else device-resolved (43_session.md R185). -/
def chosenResolution (s : State) : Option (Half × Half) :=
  if s.expW ≠ 0 ∧ s.expH ≠ 0 then some (s.expW, s.expH)
  else if s.status.devResValid then some (s.devW, s.devH)
  else none

/-- Does an image of this size fit the memories? (43_session.md R186) -/
def fits (s : State) (w h : Nat) : Bool :=
  decide (w * h ≤ s.cfg.pixCap) && decide (2 * planeBytes w h ≤ s.cfg.planeCap)

/-- The end of negotiation (43_session.md R185, R186). -/
def resolve (s : State) : State :=
  match chosenResolution s with
  | none => raiseError .cfgResolution s
  | some (w, h) =>
    if fits s w.toNat h.toNat then
      complete { s with resW := w, resH := h, status := { s.status with resValid := true }, seqState := .ready }
    else raiseError .cfgCapacity s

/-- The negotiation timeout with the MTU fallback (43_session.md R183, R184). -/
def negotiationTimeout (s : State) : State :=
  resolve { s with status := { s.status with negTo := true }, tu := if s.status.mtuRcvd then s.tu else s.linkmax }

/-- Are the config signal and the MTU signal present? (43_session.md R174) -/
def bothSignals (s : State) : Bool := s.status.cfgRcvd && s.status.mtuRcvd

/-- The response to INIT (43_session.md R173). -/
def onInitAck (ok : Bool) (s : State) : State :=
  if ok = false then raiseError .cmdAck s
  else if bothSignals s then resolve s
  else startTimer s.tNeg .negotiate negotiationTimeout s

/-! ### The notification receiver -/

/-- The model lookup (43_session.md R178). -/
def modelLookup (s : State) : State :=
  match lookupModel s.cfg.modelRes (modelId s) with
  | some (w, h) => { s with devW := w, devH := h, status := { s.status with devResValid := true } }
  | none => s

/-- The words of the config record (10_state.md R38); a record shorter than 12 bytes is none (30_encoding.md R102). -/
def configRecord (bytes : List Byte) : Option (Vector Word 3) :=
  match bytes with
  | b0 :: b1 :: b2 :: b3 :: b4 :: b5 :: b6 :: b7 :: b8 :: b9 :: b10 :: b11 :: _ =>
    some #v[wordOf b0 b1 b2 b3, wordOf b4 b5 b6 b7, wordOf b8 b9 b10 b11]
  | _ => none

/-- The config notification (43_session.md R177). -/
def configNotification (bytes : List Byte) (s : State) : State :=
  match configRecord bytes with
  | some ws => modelLookup { s with epdcfg := ws, status := { s.status with cfgRcvd := true, cfgValid := true } }
  | none => { s with malfCnt := sat8Inc s.malfCnt, status := { s.status with cfgRcvd := true } }

/-- The MTU latch (43_session.md R179). -/
def latchMtu (n : Half) (s : State) : State :=
  { s with tu := n, status := { s.status with mtuRcvd := true } }

/-- A notification after the first (43_session.md R176, R179, R180). -/
def laterNotification (bytes : List Byte) (s : State) : State :=
  if utf8Ok bytes = false then { s with malfCnt := sat8Inc s.malfCnt }
  else
    match mtuMatch bytes with
    | some n =>
      if s.seqState = .negotiating ∧ s.status.mtuRcvd = false then latchMtu n s
      else { s with ignCnt := sat8Inc s.ignCnt }
    | none => { s with ignCnt := sat8Inc s.ignCnt }

/-- The dispatch of a received notification by its position, without the end of negotiation (43_session.md R176). -/
def recordNotification (bytes : List Byte) (s : State) : State :=
  if s.status.cfgRcvd then laterNotification bytes { s with notifCnt := sat8Inc s.notifCnt }
  else configNotification bytes { s with notifCnt := sat8Inc s.notifCnt }

/-- The `Notify` event (43_session.md R175, R176, R181). -/
def onNotify (bytes : List Byte) (s : State) : State :=
  if s.status.subscribed = false then s
  else if s.wait = .negotiate ∧ bothSignals (recordNotification bytes s) = true then
    resolve (recordNotification bytes s)
  else recordNotification bytes s

/-! ### CLOSE and teardown -/

/-- CLOSE's own acceptance (43_session.md R188). -/
def acceptClose (s : State) : State :=
  if s.seqState = .ready then startTeardown (accept .closeOp s) else raiseError .sequence s

/-- CLOSE (43_session.md R188). -/
def execClose (s : State) : Host.Outcome State Fault Refusal := .next (present acceptClose s)

/-- A failed teardown request is recorded (43_session.md R190, R191). -/
def noteTeardownRsp (ok : Bool) (s : State) : State := if ok then s else raiseError .linkTeardown s

/-- The response to UNSUBSCRIBE (43_session.md R190). -/
def onUnsubscribeRsp (ok : Bool) (s : State) : State :=
  waitAt .disconnect (emit .disconnect (noteTeardownRsp ok s))

/-- The response to DISCONNECT: the end of teardown (43_session.md R190). -/
def onDisconnectRsp (ok : Bool) (s : State) : State :=
  let t := noteTeardownRsp ok s
  complete { t with seqState := .disconnected, status := { t.status with resValid := false, planesValid := false } }

end Sys2Proof.Machine
end

