-- ==== Sys2Proof/Machine/Transfer.lean ====
section
/-! DEFINITION. The chunked-transfer sequencer: XFER (44_transfer.md). -/

namespace Sys2Proof.Machine

/-! ### Chunks -/

/-- The header of the next chunk (44_transfer.md R204, 30_encoding.md R98). -/
def nextHeader (s : State) : Byte :=
  s.sel ||| (if s.chunkIdx = 0 then 0x00#8 else s.cfg.hdrCont)

/-- The plane bytes `first .. first + n` (44_transfer.md R204), in increasing index order (20_memory.md R78). -/
def planeSlice (s : State) (first n : Nat) : List Byte :=
  (List.range n).map (fun j => readPlaneByte s (first + j))

/-- The offset of the next chunk in its plane (44_transfer.md R204). -/
def nextOffset (s : State) : Nat := s.chunkIdx.toNat * s.cs.toNat

/-- The bytes of the next chunk (44_transfer.md R204). -/
def nextChunk (s : State) : List Byte :=
  planeSlice s (s.base.toNat + nextOffset s) (min s.cs.toNat (s.planeLen.toNat - nextOffset s))

/-- One turn of the loop of 44_transfer.md R204. -/
def sendNextChunk (s : State) : State := issueChunk (nextHeader s) (nextChunk s) s

/-- The loop of 44_transfer.md R204 with at most `n` turns: it ends with the first acknowledged chunk. -/
def sendLoop : Nat → State → State
  | 0, s => s
  | n + 1, s => if nextChunkAcked s then sendNextChunk s else sendLoop n (sendNextChunk s)

/-- Send chunks up to the next acknowledged one (44_transfer.md R204). The last chunk of the plane is acknowledged, so
the chunks left bound the loop. -/
def sendChunks (s : State) : State := sendLoop (s.chunkCnt.toNat - s.chunkIdx.toNat) s

/-! ### Planes -/

/-- Start the refresh after the last plane (44_transfer.md R209). -/
def startRefresh (s : State) : State := issueRefresh { s with seqState := .refreshing }

/-- The registers a plane starts with (44_transfer.md R203). -/
def loadPlane (pl : Plane) (s : State) : State :=
  { s with
    plane    := pl
    base     := BitVec.ofNat 24 (planeIndex pl * s.planeLen.toNat)
    sel      := planeSelector s.cfg pl
    chunkCnt := BitVec.ofNat 24 (ceilDiv s.planeLen.toNat s.cs.toNat)
    chunkIdx := 0
    ilCnt    := s.interleave }

/-- Send the plane that `loadPlane` set up, or go on with `atEnd` if it has no chunk (44_transfer.md R203). -/
def runPlane (atEnd : State → State) (s : State) : State :=
  if s.chunkCnt = 0 then atEnd s else sendChunks s

/-- Plane start for plane R, the last plane there is (44_transfer.md R203, R209). -/
def startPlaneR (s : State) : State := runPlane startRefresh (loadPlane .r s)

/-- Plane end (44_transfer.md R209). -/
def planeEnd (s : State) : State :=
  if s.plane = .b ∧ 1 < s.nplanes.toNat then startPlaneR s else startRefresh s

/-- Plane start for plane B (44_transfer.md R203). -/
def startPlaneB (s : State) : State := runPlane planeEnd (loadPlane .b s)

/-- **continue** (44_transfer.md R208). -/
def continueTransfer (s : State) : State :=
  if s.chunkIdx.toNat < s.chunkCnt.toNat then sendChunks s else planeEnd s

/-! ### XFER and its responses -/

/-- The header bytes reserved per chunk (00_scope.md R6). -/
def hdrOverhead : Nat := 1

/-- XFER past its checks (44_transfer.md R200): the plane count PACK used and the chunk size, then CLEAR or the first
plane. -/
def beginTransfer (s : State) : State :=
  let t := { s with nplanes := if s.packedMode = .tri then 2 else 1, cs := s.tu - 1 }
  if t.clearEn then issueClear t else startPlaneB t

/-- XFER's own acceptance (44_transfer.md R200), in the order of 60_exceptions.md R235. -/
def acceptXfer (s : State) : State :=
  if (imageReady s && s.status.planesValid) = false then raiseError .sequence s
  else
    let t := { accept .xferOp s with seqState := .transferring }
    if t.tu.toNat ≤ hdrOverhead then raiseError .cfgTransferUnit t
    else if t.interleave = 0 then raiseError .cfgInterleave t
    else beginTransfer t

/-- XFER (44_transfer.md R200). -/
def execXfer (s : State) : Host.Outcome State Fault Refusal := .next (present acceptXfer s)

/-- The response to CLEAR (44_transfer.md R201). -/
def onClearAck (ok : Bool) (s : State) : State :=
  if ok = false then raiseError .cmdAck s else startTimer s.tClear .settleClear startPlaneB s

/-- The response to an acknowledged chunk (44_transfer.md R207). -/
def onChunkAck (ok : Bool) (s : State) : State :=
  if ok = false then raiseError .transfer s
  else startTimer s.tPace .pace continueTransfer { s with ilCnt := s.interleave }

/-- The response to REFRESH (44_transfer.md R210); the end of the transfer is teardown (R211). -/
def onRefreshAck (ok : Bool) (s : State) : State :=
  if ok = false then raiseError .cmdAck s else startTimer s.tRefresh .settleRefresh startTeardown s

end Sys2Proof.Machine
end

