-- ==== Sys2Proof/Machine/Dispatch.lean ====
section
/-! DEFINITION. One arm per instruction: the host commands (40_command.md R120) and the wire frames (45_codec.md). -/

namespace Sys2Proof.Machine

def exec (i : Instr) (s : State) : Host.Outcome State Fault Refusal :=
  match i with
  | .nop => Sys2Proof.Machine.execNop s
  | .openSession => Sys2Proof.Machine.execOpen s
  | .quant => Sys2Proof.Machine.execQuant s
  | .pack => Sys2Proof.Machine.execPack s
  | .xfer => Sys2Proof.Machine.execXfer s
  | .close => Sys2Proof.Machine.execClose s
  | .ldkern => Sys2Proof.Machine.execLdkern s
  | .illegal op => Sys2Proof.Machine.execIllegal op s
  | .init => Sys2Proof.Machine.execInit s
  | .clear => Sys2Proof.Machine.execClear s
  | .refresh => Sys2Proof.Machine.execRefresh s
  | .writeImg hdr chunk => Sys2Proof.Machine.execWriteImg hdr chunk s
  | .pinConfig payload => Sys2Proof.Machine.execPinConfig payload s
  | .sleep payload => Sys2Proof.Machine.execSleep payload s
  | .reset payload => Sys2Proof.Machine.execVendorReset payload s
  | .configErase payload => Sys2Proof.Machine.execConfigErase payload s

end Sys2Proof.Machine
end

