-- ==== Sys2Proof/Machine/Events.lean ====
section
/-! DEFINITION. What each input event does (00_scope.md R10), the reset input (70_reset_and_hazards.md R260), and
where a step takes its next instruction from. -/

namespace Sys2Proof.Machine

/-- A host write (20_memory.md R80, R82, 70_reset_and_hazards.md R266). A write to `CMD` runs the command its word
decodes to. -/
def onHostWrite (addr data : Word) (s : State) : Host.Outcome State Fault Refusal :=
  match hostTarget s.cfg addr with
  | .reg r =>
    if r = .cmd then exec (decodeCommand data) s
    else if s.status.busy = true ∧ writableWhileBusy r = false then .next s
    else .next (writeReg data s r)
  | .pixel p => if s.status.busy then .next s else .next (loadPixel s p data)
  | .planeWord _ => .next s
  | .unmapped => .next s

/-- A window read: any value while BUSY (20_memory.md R82, 93_implementation_defined.md I3), the memory's word
otherwise. -/
def readWindow (word : Word) (s : State) : State :=
  if s.status.busy then { s with rdData := Sys2Proof.Config.busyRead s.freeIdx, freeIdx := s.freeIdx + 1 }
  else { s with rdData := word }

/-- A host read answers into `rdData`; it has no other effect (20_memory.md R72, R75, R77, R80, R82). -/
def onHostRead (addr : Word) (s : State) : State :=
  match hostTarget s.cfg addr with
  | .reg r => { s with rdData := readReg s r }
  | .planeWord j => readWindow (planeWindowWord s j) s
  | .pixel p => readWindow (pixelWord s p) s
  | .unmapped => { s with rdData := 0 }

/-- A link response answers the request that `SEQ.WAIT` names (10_state.md R52); any other is discarded
(60_exceptions.md R249). -/
def onLinkRsp (ok : Bool) (maxpl : Nat) (s : State) : State :=
  match s.wait with
  | .connect => onConnectRsp ok maxpl s
  | .subscribe => onSubscribeRsp ok s
  | .initAck => onInitAck ok s
  | .clearAck => onClearAck ok s
  | .chunkAck => onChunkAck ok s
  | .refreshAck => onRefreshAck ok s
  | .unsubscribe => onUnsubscribeRsp ok s
  | .disconnect => onDisconnectRsp ok s
  | .idle => s
  | .negotiate => s
  | .settleClear => s
  | .pace => s
  | .settleRefresh => s
  | .engine => s

/-- A tick acts at the timed wait points only (60_exceptions.md R245). -/
def onTick (s : State) : State :=
  match s.wait with
  | .negotiate => countTick negotiationTimeout s
  | .settleClear => countTick startPlaneB s
  | .pace => countTick continueTransfer s
  | .settleRefresh => countTick startTeardown s
  | .idle => s
  | .connect => s
  | .subscribe => s
  | .initAck => s
  | .clearAck => s
  | .chunkAck => s
  | .refreshAck => s
  | .unsubscribe => s
  | .disconnect => s
  | .engine => s

/-- The compute engine's event ends QUANT or PACK; it is discarded at every other wait point (60_exceptions.md
R249). -/
def onEngine (s : State) : State :=
  if s.wait = .engine then
    match s.curOp with
    | .quantOp => runQuant s
    | .packOp => runPack s
    | .none => s
    | .openOp => s
    | .xferOp => s
    | .closeOp => s
  else s

/-- The reset input (70_reset_and_hazards.md R260, R262): every piece of the spec's state takes its reset value; no
link request is emitted; the memories hold any value again, a new one (assumption log 8). -/
def onReset (s : State) : State :=
  { State.reset with
    cfg     := s.cfg
    inputs  := s.inputs
    linkOut := s.linkOut
    rdData  := s.rdData
    freeIdx := s.freeIdx
    epoch   := s.epoch + 1 }

/-- One input event, processed whole (00_scope.md R10). -/
def onEvent (e : Event) (s : State) : Host.Outcome State Fault Refusal :=
  match e with
  | .hostWrite addr data => onHostWrite addr data s
  | .hostRead addr => .next (onHostRead addr s)
  | .linkRsp ok maxpl => .next (onLinkRsp ok maxpl s)
  | .notify bytes => .next (onNotify bytes s)
  | .tick => .next (onTick s)
  | .engine => .next (onEngine s)
  | .resetInput => .next (onReset s)

/-- Run a frame that was handed to the framer by itself (assumption log 3). -/
def runFramer (bytes : List Byte) (s : State) : Host.Outcome State Fault Refusal :=
  match decode s.cfg (.frame bytes) with
  | .ok i => exec i s
  | .error _ => .refused .framerInputNotAFrame

/-- Take the next instruction or event: a frame in the framer's own input first, then the oldest event; with neither
the unit waits and nothing changes (00_scope.md R10). -/
def takeNext (s : State) : Host.Outcome State Fault Refusal :=
  match s.framer with
  | some bytes => runFramer bytes { s with framer := none }
  | none =>
    match s.inputs with
    | [] => .next s
    | e :: rest => onEvent e { s with inputs := rest }

/-- The byte address of `CMD` (10_state.md R22). -/
def cmdAddress : Word := 0x008#32

/-- Place a code where the next step takes its instruction: a command word as the next host write to `CMD`, a wire
frame in the framer's input. -/
def placeCode (c : Code) (s : State) : State :=
  match c with
  | .command w => { s with framer := none, inputs := .hostWrite cmdAddress w :: s.inputs }
  | .frame bytes => { s with framer := some bytes }

end Sys2Proof.Machine
end

