-- ==== Sys2Proof/Machine/Step.lean ====
section
/-! DEFINITION. One step of the machine: one input event (00_scope.md R10). -/

namespace Sys2Proof.Machine

/-- One step. -/
def step (s : State) : Host.Outcome State Fault Refusal := takeNext s

/-- `s` with an instruction of the opcode table placed so that the next step runs it (assumption log 2). -/
def State.withFetchWord (s : State) (nbits w : Nat) : State :=
  placeCode (tableCode s.cfg nbits w) s

end Sys2Proof.Machine
end

