-- ==== Sys2Proof/Machine/Program.lean ====
section
/-! DEFINITION. The notation of host programs and event listings, and its expansion into events (30_encoding.md R107,
R108). -/

namespace Sys2Proof.Machine

/-- One line of a listing (30_encoding.md R107, R108). -/
inductive Line where
  /-- `wr <reg>, <value>` -/
  | wr (r : Reg) (value : Word)
  /-- `wr <byte address>, <value>` -/
  | wrAt (addr value : Word)
  /-- `rd <reg>` -/
  | rd (r : Reg)
  /-- `rd <byte address>` -/
  | rdAt (addr : Word)
  /-- A command mnemonic: `wr CMD, <OP>`. -/
  | command (op : Byte)
  /-- `@link rsp ok maxpl=<n>`, `@link rsp ok` (n = 0), `@link rsp fail` (n = 0) -/
  | linkRsp (ok : Bool) (maxpl : Nat)
  /-- `@notify [b0, b1, ...]` -/
  | notify (bytes : List Byte)
  /-- `@tick <k>` -/
  | tick (k : Nat)
  /-- `@engine` -/
  | engine
  /-- `wait_idle`: `rd STATUS` until BUSY reads 0; the number of reads it takes is the run's (assumption log 25). -/
  | waitIdle (reads : Nat)
  /-- `pix <x>, <y>, <r>, <g>, <b>` for the width that `RES_W` holds. -/
  | pix (resW x y : Nat) (r g b : Byte)
  /-- `clr_status` -/
  | clrStatus
  /-- `setres <w>, <h>` -/
  | setres (w h : Half)
  deriving DecidableEq, Repr

/-- The offset the register map gives a register. -/
def offsetIn (t : List (Nat × Reg)) (r : Reg) : Nat :=
  match t with
  | [] => 0
  | (a, r') :: rest => if r' = r then a else offsetIn rest r

/-- The address of a register (10_state.md R22). -/
def regAddress (r : Reg) : Word := BitVec.ofNat 32 (offsetIn regTable r)

/-- The events of a line (30_encoding.md R107, R108). -/
def expandLine : Line → List Event
  | .wr r value => [.hostWrite (regAddress r) value]
  | .wrAt addr value => [.hostWrite addr value]
  | .rd r => [.hostRead (regAddress r)]
  | .rdAt addr => [.hostRead addr]
  | .command op => [.hostWrite (regAddress .cmd) (op.setWidth 32)]
  | .linkRsp ok maxpl => [.linkRsp ok maxpl]
  | .notify bytes => [.notify bytes]
  | .tick k => List.replicate k .tick
  | .engine => [.engine]
  | .waitIdle reads => List.replicate reads (.hostRead (regAddress .status))
  | .pix resW x y r g b => [.hostWrite (BitVec.ofNat 32 (0x01000000 + 4 * (y * resW + x))) (wordOf r g b 0)]
  | .clrStatus => [.hostWrite (regAddress .status) 0x0000001E]
  | .setres w h => [.hostWrite (regAddress .expRes) (halves w h)]

/-- The events of a listing, in order. -/
def expand (lines : List Line) : List Event := lines.flatMap expandLine

end Sys2Proof.Machine
end

