-- ==== Sys2Proof/Safety.lean ====
section
/-! DEFINITION. The terms claims about runs are stated in: the duties of the environment (60_exceptions.md R250), what
the link port may carry (30_encoding.md R106, 45_codec.md R225), and the invariants of the machine. -/

namespace Sys2Proof.Machine

/-! ### The environment -/

/-- The wait points that wait for a `LinkRsp` (10_state.md R26). -/
def awaitsResponse : Wait → Bool
  | .connect => true
  | .subscribe => true
  | .initAck => true
  | .clearAck => true
  | .chunkAck => true
  | .refreshAck => true
  | .unsubscribe => true
  | .disconnect => true
  | .idle => false
  | .negotiate => false
  | .settleClear => false
  | .pace => false
  | .settleRefresh => false
  | .engine => false

/-- The timed wait points (60_exceptions.md R245). -/
def timedWait : Wait → Bool
  | .negotiate => true
  | .settleClear => true
  | .pace => true
  | .settleRefresh => true
  | .idle => false
  | .connect => false
  | .subscribe => false
  | .initAck => false
  | .clearAck => false
  | .chunkAck => false
  | .refreshAck => false
  | .unsubscribe => false
  | .disconnect => false
  | .engine => false

/-- Does an event keep the duties of its agent (60_exceptions.md R250)? The order of link responses and the liveness
duties are about whole runs and are not said here. -/
def envAllows (s : State) : Event → Bool
  | .hostWrite addr _ => decide (hostTarget s.cfg addr ≠ .reg .cmd) || !s.status.busy
  | .hostRead addr =>
    match hostTarget s.cfg addr with
    | .reg _ => true
    | .unmapped => true
    | .planeWord _ => !s.status.busy
    | .pixel _ => !s.status.busy
  | .linkRsp _ _ => awaitsResponse s.wait
  | .notify _ => s.status.subscribed
  | .tick => true
  | .engine => decide (s.wait = .engine)
  | .resetInput => true

/-- The event `e` arrives: the next step takes it. -/
def deliver (e : Event) (s : State) : State := { s with inputs := e :: s.inputs }

/-! ### The link port -/

/-- The requests that have a response (60_exceptions.md R247). -/
def hasResponse : LinkReq → Bool
  | .connect => true
  | .subscribe => true
  | .unsubscribe => true
  | .disconnect => true
  | .write _ ack => ack

/-- The header byte of chunk `i` of a plane (30_encoding.md R98). -/
def chunkHeader (p : Sys2Proof.Config.Params) (pl : Plane) (i : Nat) : Byte :=
  planeSelector p pl ||| (if i = 0 then 0x00#8 else p.hdrCont)

/-- The number of chunks of a plane (44_transfer.md R203, R212). -/
def chunkTotal (s : State) : Nat := ceilDiv s.planeLen.toNat s.cs.toNat

/-- The plane bytes chunk `i` of a plane carries (44_transfer.md R205). -/
def chunkBytes (s : State) (pl : Plane) (i : Nat) : List Byte :=
  planeSlice s (planeIndex pl * s.planeLen.toNat + i * s.cs.toNat) (min s.cs.toNat (s.planeLen.toNat - i * s.cs.toNat))

/-- Is chunk `i` acknowledged? (44_transfer.md R206) -/
def chunkAcked (s : State) (i : Nat) : Bool :=
  decide ((i + 1) % s.interleave.toNat = 0) || decide (i + 1 = chunkTotal s)

/-- The request that carries chunk `i` of a plane (44_transfer.md R204 to R206, 45_codec.md R224). -/
def chunkRequest (s : State) (pl : Plane) (i : Nat) : LinkReq :=
  .write (frameBytes s.cfg.opWriteImg (chunkHeader s.cfg pl i :: chunkBytes s pl i)) (chunkAcked s i)

/-- How many chunks are sent from chunk `first` on before a response is awaited (44_transfer.md R206, R213). -/
def runLength (s : State) (first : Nat) : Nat := min s.interleave.toNat (chunkTotal s - first)

/-- The state after the run of chunks of a plane that starts with chunk `first`: every chunk of the run is out, the last of
them awaits its response (44_transfer.md R203 to R206). -/
def runSent (s : State) (pl : Plane) (first : Nat) : State :=
  { s with
    plane    := pl
    base     := BitVec.ofNat 24 (planeIndex pl * s.planeLen.toNat)
    sel      := planeSelector s.cfg pl
    chunkCnt := BitVec.ofNat 24 (chunkTotal s)
    chunkIdx := BitVec.ofNat 24 (first + runLength s first)
    ilCnt    := s.interleave - BitVec.ofNat 16 (runLength s first)
    linkOut  := s.linkOut ++ (List.range (runLength s first)).map (fun j => chunkRequest s pl (first + j))
    wait     := .chunkAck }

/-- The state after REFRESH is sent (44_transfer.md R209, 45_codec.md R223). -/
def refreshSent (s : State) : State :=
  { s with seqState := .refreshing, linkOut := s.linkOut ++ [.write [s.cfg.opRefresh] true], wait := .refreshAck }

/-- What a transfer goes on with after an acknowledged chunk: the next run of the plane, the other plane, or REFRESH
(44_transfer.md R208, R209). -/
def transferGoesOn (s : State) : State :=
  if s.chunkIdx.toNat < chunkTotal s then runSent s s.plane s.chunkIdx.toNat
  else if s.plane = .b ∧ s.packedMode = .tri then runSent s .r 0
  else refreshSent s

/-- The requests the unit may emit: the four session requests, the three bare frames, each acknowledged, and the
chunks of the packed planes: plane R has chunks only if PACK made it (30_encoding.md R106, 44_transfer.md R203, R209,
45_codec.md R221 to R225). -/
def LegalRequest (s : State) (r : LinkReq) : Prop :=
  r = .connect ∨ r = .subscribe ∨ r = .unsubscribe ∨ r = .disconnect ∨
  r = .write [s.cfg.opInit] true ∨ r = .write [s.cfg.opClear] true ∨ r = .write [s.cfg.opRefresh] true ∨
  ∃ pl i, (pl = .b ∨ s.packedMode = .tri) ∧ i < chunkTotal s ∧ r = chunkRequest s pl i

/-- The wait point at which the response to a request is awaited (10_state.md R26, R52, 60_exceptions.md R248). The
frames are told apart by their opcode byte. -/
def AwaitedAt (p : Sys2Proof.Config.Params) (r : LinkReq) (w : Wait) : Prop :=
  match r with
  | .connect => w = .connect
  | .subscribe => w = .subscribe
  | .unsubscribe => w = .unsubscribe
  | .disconnect => w = .disconnect
  | .write bytes _ =>
    (w = .initAck ∧ bytes = [p.opInit]) ∨ (w = .clearAck ∧ bytes = [p.opClear]) ∨
    (w = .refreshAck ∧ bytes = [p.opRefresh]) ∨ (w = .chunkAck ∧ bytes.head? = some p.opWriteImg)

/-- What one event may emit (60_exceptions.md R248): nothing, or fire-and-forget writes followed by one request that
has a response, which the sequencer then awaits. -/
def OneOutstanding (p : Sys2Proof.Config.Params) (emitted : List LinkReq) (w : Wait) : Prop :=
  emitted = [] ∨
  ∃ unacked last, emitted = unacked ++ [last] ∧ (∀ r ∈ unacked, ∃ bytes, r = .write bytes false) ∧
    hasResponse last = true ∧ AwaitedAt p last w

/-! ### Tables of the spec that statements cite -/

/-- The columns A, D and rows 0 to 2 of the preset table (41_quantizer.md R152), as the grid is printed there. -/
def presetTable : List (Nat × Nat × List (List Nat)) :=
  [(1, 16, [[0, 0, 7, 0, 0], [3, 5, 1, 0, 0], [0, 0, 0, 0, 0]]),
   (2, 48, [[0, 0, 0, 7, 5], [3, 5, 7, 5, 3], [1, 3, 5, 3, 1]]),
   (2, 42, [[0, 0, 0, 8, 4], [2, 4, 8, 4, 2], [1, 2, 4, 2, 1]]),
   (2, 32, [[0, 0, 0, 8, 4], [2, 4, 8, 4, 2], [0, 0, 0, 0, 0]]),
   (2, 32, [[0, 0, 0, 5, 3], [2, 4, 5, 4, 2], [0, 2, 3, 2, 0]]),
   (1, 8, [[0, 0, 1, 1, 0], [1, 1, 1, 0, 0], [0, 1, 0, 0, 0]])]

/-- The reset contents of `BAYER` (10_state.md R45), as the matrix is printed there. -/
def bayerMatrix : List (List Nat) :=
  [[0, 32, 8, 40, 2, 34, 10, 42], [48, 16, 56, 24, 50, 18, 58, 26], [12, 44, 4, 36, 14, 46, 6, 38],
   [60, 28, 52, 20, 62, 30, 54, 22], [3, 35, 11, 43, 1, 33, 9, 41], [51, 19, 59, 27, 49, 17, 57, 25],
   [15, 47, 7, 39, 13, 45, 5, 37], [63, 31, 55, 23, 61, 29, 53, 21]]

/-- 256 times a colour: what a pixel of that colour holds (41_quantizer.md R134). -/
def scaledColour (c : Rgb) : Rgb := { r := 256 * c.r, g := 256 * c.g, b := 256 * c.b }

/-- The weight with which the pixel at `(nx, ny)` receives error from the pixel at `(x, y)`: the kernel entry that
addresses it, 0 where none propagates to it (41_quantizer.md R136). -/
def weightBetween (s : State) (x y nx ny : Nat) : Nat :=
  let cc := nx + s.kanchor.toNat - x
  if nx + s.kanchor.toNat < x ∨ 4 < cc then 0
  else if ny = y then (if x < nx then kernelWeight s 0 cc else 0)
  else if ny = y + 1 then kernelWeight s 1 cc
  else if ny = y + 2 then kernelWeight s 2 cc
  else 0

/-- The accumulator updates that pixel `(x, y)` makes in the error-diffusion pass, in the order of 41_quantizer.md R135:
kernel rows from the top, columns from the left, channels R, G, B; accumulator index and share. -/
def pixelUpdates (s : State) (x y : Nat) : List (Nat × Int) :=
  let w := s.resW.toNat
  let a := readPixel s (y * w + x)
  let c := nearestColour s.mode 256 a
  (List.range 3).flatMap fun r =>
    (List.range 5).flatMap fun cc =>
      let nx := x + cc - s.kanchor.toNat
      let k := weightBetween s x y nx (y + r)
      let share := fun e : Int => Int.fdiv (e * (k : Int)) (s.kdiv.toNat : Int)
      let q := (y + r) * w + nx
      if s.kanchor.toNat ≤ x + cc ∧ nx < w ∧ y + r < s.resH.toNat ∧ k ≠ 0 then
        [(3 * q, share (a.r - 256 * c.r)), (3 * q + 1, share (a.g - 256 * c.g)), (3 * q + 2, share (a.b - 256 * c.b))]
      else []

/-- The error-diffusion pass over pixels 0 to `n - 1`, each after the one before it, up to its end or its first overflow
(41_quantizer.md R135, R138, R139). -/
def diffusedTo (s : State) : Nat → Pass
  | 0 => .going s
  | n + 1 =>
    match diffusedTo s n with
    | .going u => diffusePixel n u
    | .overflowed v => .overflowed v

/-- The value of decimal digits read as ASCII text (30_encoding.md R103). -/
def digitsValue (digits : List Byte) : Nat := Nat.ofDigits 10 ((digits.map (fun d => d.toNat - 48)).reverse)

/-- The rows of the table of well-formed UTF-8 sequences (30_encoding.md R104): the range of each byte. -/
def utf8Rows : List (List (Nat × Nat)) :=
  [[(0x00, 0x7F)],
   [(0xC2, 0xDF), (0x80, 0xBF)],
   [(0xE0, 0xE0), (0xA0, 0xBF), (0x80, 0xBF)],
   [(0xE1, 0xEC), (0x80, 0xBF), (0x80, 0xBF)],
   [(0xED, 0xED), (0x80, 0x9F), (0x80, 0xBF)],
   [(0xEE, 0xEF), (0x80, 0xBF), (0x80, 0xBF)],
   [(0xF0, 0xF0), (0x90, 0xBF), (0x80, 0xBF), (0x80, 0xBF)],
   [(0xF1, 0xF3), (0x80, 0xBF), (0x80, 0xBF), (0x80, 0xBF)],
   [(0xF4, 0xF4), (0x80, 0x8F), (0x80, 0xBF), (0x80, 0xBF)]]

/-- Is a byte string a sequence of one row of the table? -/
def fitsRow (part : List Byte) (row : List (Nat × Nat)) : Prop :=
  List.Forall₂ (fun b r => r.1 ≤ b.toNat ∧ b.toNat ≤ r.2) part row

/-- The bits a host write stores in a register other than `CMD` and `STATUS` (10_state.md R22 to R46): none of a
read-only register. -/
def storedBits : Reg → Word
  | .ctrl => 0x0000000F
  | .ie => 0x00000003
  | .expRes => 0xFFFFFFFF
  | .interleave => 0x0000FFFF
  | .amp => 0x000000FF
  | .tNeg => 0x0000FFFF
  | .tClear => 0x0000FFFF
  | .tRefresh => 0x0000FFFF
  | .tPace => 0x0000FFFF
  | .kcfg => 0x0F07FFFF
  | .kw k => if k = 3 then 0x00FFFFFF else 0xFFFFFFFF
  | .bayer _ => 0x3F3F3F3F
  | .id => 0
  | .cmd => 0
  | .status => 0
  | .errcode => 0
  | .seq => 0
  | .res => 0
  | .devRes => 0
  | .tu => 0
  | .linkmax => 0
  | .epdcfg _ => 0
  | .planeLen => 0
  | .chunkIdx => 0
  | .chunkCnt => 0
  | .ilCnt => 0
  | .notif => 0

/-- The reset value of a register as the host reads it (70_reset_and_hazards.md R262, 10_state.md R45). -/
def resetWord : Reg → Word
  | .id => 0x45445455
  | .interleave => 62
  | .amp => 50
  | .tNeg => 1000
  | .tClear => 200
  | .tRefresh => 500
  | .tPace => 5
  | .kcfg => 0x00010010
  | .kw k => [0x00070000#32, 0x01050300#32, 0#32, 0#32].getD k.val 0
  | .bayer k =>
    [0x28082000#32, 0x2A0A2202#32, 0x18381030#32, 0x1A3A1232#32, 0x24042C0C#32, 0x26062E0E#32, 0x14341C3C#32,
     0x16361E3E#32, 0x2B0B2303#32, 0x29092101#32, 0x1B3B1333#32, 0x19391131#32, 0x27072F0F#32, 0x25052D0D#32,
     0x17371F3F#32, 0x15351D3D#32].getD k.val 0
  | .ctrl => 0
  | .cmd => 0
  | .status => 0
  | .errcode => 0
  | .ie => 0
  | .seq => 0
  | .expRes => 0
  | .res => 0
  | .devRes => 0
  | .tu => 0
  | .linkmax => 0
  | .epdcfg _ => 0
  | .planeLen => 0
  | .chunkIdx => 0
  | .chunkCnt => 0
  | .ilCnt => 0
  | .notif => 0

/-! ### Invariants -/

/-- The positions the sequencer can have (43_session.md R192, 44_transfer.md, 40_command.md R128, R129). -/
def legalPosition : CurOp → SeqState → Wait → Bool
  | .none, .disconnected, .idle => true
  | .none, .ready, .idle => true
  | .openOp, .connecting, .connect => true
  | .openOp, .connecting, .subscribe => true
  | .openOp, .negotiating, .initAck => true
  | .openOp, .negotiating, .negotiate => true
  | .openOp, .teardown, .unsubscribe => true
  | .openOp, .teardown, .disconnect => true
  | .quantOp, .ready, .engine => true
  | .packOp, .ready, .engine => true
  | .xferOp, .transferring, .clearAck => true
  | .xferOp, .transferring, .settleClear => true
  | .xferOp, .transferring, .chunkAck => true
  | .xferOp, .transferring, .pace => true
  | .xferOp, .refreshing, .refreshAck => true
  | .xferOp, .refreshing, .settleRefresh => true
  | .xferOp, .teardown, .unsubscribe => true
  | .xferOp, .teardown, .disconnect => true
  | .closeOp, .teardown, .unsubscribe => true
  | .closeOp, .teardown, .disconnect => true
  | _, _, _ => false

/-- The session states in which notifications are received (43_session.md R175). -/
def receiving : SeqState → Bool
  | .negotiating => true
  | .ready => true
  | .transferring => true
  | .refreshing => true
  | .disconnected => false
  | .connecting => false
  | .teardown => false

/-- The control part (10_state.md R26, R27, R50, 40_command.md R128): the sequencer is at a legal position, BUSY is set
exactly while a command is in progress, SUBSCRIBED exactly in the states that receive notifications, and nothing stands in the
framer's own input. -/
def ControlOk (s : State) : Prop :=
  legalPosition s.curOp s.seqState s.wait = true ∧
  (s.status.busy = true ↔ s.curOp ≠ .none) ∧
  s.status.subscribed = receiving s.seqState ∧
  s.framer = none

/-- The timer never stands at 0 at a timed wait point (43_session.md R182). -/
def TimerOk (s : State) : Prop := timedWait s.wait = true → s.timer ≠ 0

/-- The completion flags (40_command.md R124, 10_state.md R28): none is set while BUSY, not both are set, and each
agrees with ERRCODE; a command in progress has no error unless it is torn down, and an OPEN that is torn down has one
(43_session.md R187, 60_exceptions.md R235). -/
def FlagsOk (s : State) : Prop :=
  (s.status.busy = true → s.status.done = false ∧ s.status.err = false) ∧
  (s.status.done = true → s.errcode = .none) ∧
  (s.status.err = true → s.errcode ≠ .none) ∧
  (s.status.busy = true ∧ s.seqState ≠ .teardown → s.errcode = .none) ∧
  (s.curOp = .openOp ∧ s.seqState = .teardown → s.errcode ≠ .none)

/-- Both memories have their canonical form. -/
def MemoryOk (s : State) : Prop := Memory.wf s.pix = true ∧ Memory.wf s.planeMem = true

/-- Every key a memory lists lies below a bound. -/
def keysBelow {w : Nat} (m : Memory w) (n : Nat) : Bool := m.all (fun c => decide (c.1 < n))

/-- No memory holds anything beyond its capacity (10_state.md R47, R48). -/
def CapacityOk (s : State) : Prop :=
  keysBelow s.pix (3 * s.cfg.pixCap) = true ∧ keysBelow s.planeMem s.cfg.planeCap = true

/-- The session part: a valid resolution is not empty and fits both memories (43_session.md R186), the states that
need one have one and the states before it have none (40_command.md R127, 43_session.md R185, R190), and valid planes
are of its size (42_bitplane.md R160). -/
def SessionOk (s : State) : Prop :=
  s.cfg.Ok ∧
  (s.status.devResValid = true → s.devW ≠ 0 ∧ s.devH ≠ 0) ∧
  (s.status.resValid = true → s.resW ≠ 0 ∧ s.resH ≠ 0 ∧ fits s s.resW.toNat s.resH.toNat = true) ∧
  (s.status.resValid = true → s.seqState ≠ .disconnected ∧ s.seqState ≠ .connecting ∧ s.seqState ≠ .negotiating) ∧
  (s.status.planesValid = true → s.status.resValid = true ∧ s.planeLen.toNat = planeBytes s.resW.toNat s.resH.toNat) ∧
  (s.seqState = .ready → s.status.resValid = true) ∧
  (s.seqState = .transferring ∨ s.seqState = .refreshing → s.status.planesValid = true)

/-- The plane being sent (44_transfer.md R203, R204, R207, R209): its registers are those of the plane start, the chunks
emitted so far end on a multiple of the interleave count unless the plane is done, the counter is full again after the
acknowledgment, and plane R is sent only if PACK made it. -/
def PlaneOk (s : State) : Prop :=
  s.base.toNat = planeIndex s.plane * s.planeLen.toNat ∧
  s.sel = planeSelector s.cfg s.plane ∧
  s.chunkCnt.toNat = chunkTotal s ∧
  s.chunkIdx.toNat ≤ s.chunkCnt.toNat ∧
  (s.chunkIdx.toNat < s.chunkCnt.toNat → s.chunkIdx.toNat % s.interleave.toNat = 0) ∧
  (s.wait = .pace → s.ilCnt = s.interleave) ∧
  (s.plane = .r → s.packedMode = .tri)

/-- The transfer part (44_transfer.md R200): XFER's checks hold as long as it transfers. -/
def TransferOk (s : State) : Prop :=
  s.seqState = .transferring →
    2 ≤ s.tu.toNat ∧ s.cs = s.tu - 1 ∧ s.interleave ≠ 0 ∧
    s.nplanes = (if s.packedMode = .tri then 2 else 1) ∧
    (s.wait = .chunkAck ∨ s.wait = .pace → PlaneOk s)

/-- The invariant of the machine. -/
def Invariant (s : State) : Prop :=
  ControlOk s ∧ TimerOk s ∧ FlagsOk s ∧ MemoryOk s ∧ CapacityOk s ∧ SessionOk s ∧ TransferOk s

end Sys2Proof.Machine
end

