-- ==== Sys2Proof/Certificates/Slice0/Obligations.lean ====
section
/-! DEFINITION. The statements for the provers. `deliver e s` is `s` with the event `e` arriving next, so that
`step (deliver e s)` is what the unit does with that event (00_scope.md R10). -/

open Sys2Proof Sys2Proof.Machine

/-! ### Encoding -/

/-- 30_encoding.md R91, R92, R95, R96, R98, R101: decoding the encoding of a well-formed instruction gives it back, for
every value of the parameters that 00_scope.md R6 and R7 allow. -/
def Obligations.DecodeEncode : Prop :=
  ∀ (p : Config.Params) (i : Instr), p.Ok → wellFormed p i = true → decode p (encode p i) = .ok i

/-- 30_encoding.md R109, R91, R93: every 32-bit word is a well-formed command, which only its OP field decides. -/
def Obligations.CommandWordsTotal : Prop :=
  ∀ (p : Config.Params) (w : Word),
    wellFormed p (decodeCommand w) = true ∧ encode p (decodeCommand w) = .command (w &&& 0xFF#32) ∧
    decodeCommand (w &&& 0xFF#32) = decodeCommand w

/-- 30_encoding.md R95 to R98: a byte string that decodes is the encoding of what it decodes to, and of no other
instruction; no byte of it is dropped. -/
def Obligations.FramesRoundTrip : Prop :=
  ∀ (p : Config.Params) (bytes : List Byte) (i : Instr),
    decodeFrame p bytes = .ok i → wellFormed p i = true ∧ encode p i = .frame bytes

/-- A few words written out from 30_encoding.md R92, R93, R96, R98 (the default wire bytes) decode to what they stand
for. -/
def Obligations.DecodedWords : Prop :=
  decodeCommand 0x00000001#32 = .openSession ∧ decodeCommand 0x00000002#32 = .quant ∧
  decodeCommand 0x00000003#32 = .pack ∧ decodeCommand 0x00000006#32 = .ldkern ∧
  decodeCommand 0x000000FF#32 = .illegal 0xFF#8 ∧ decodeCommand 0xFFFFFF00#32 = .nop ∧
  ∀ p : Config.Params, p.opInit = 0x01#8 → p.opClear = 0x02#8 → p.opRefresh = 0x05#8 → p.opWriteImg = 0x30#8 →
    p.hdrSel0 = 0x0F#8 → p.hdrSel1 = 0x00#8 → p.hdrCont = 0xF0#8 →
    decodeFrame p [0x01#8] = .ok .init ∧
    decodeFrame p [0x30#8, 0xFF#8, 0xAA#8, 0x80#8] = .ok (.writeImg 0xFF#8 [0xAA#8, 0x80#8]) ∧
    decodeFrame p [0x30#8, 0x0F#8] = .error .chunkLength

/-! ### A step runs the decoded instruction -/

/-- 10_state.md R25, 40_command.md R120: a host write to `CMD` (byte addresses 8 to 11, 20_memory.md R74) makes the step
run the instruction its data decodes to, on the state without that event. A frame in the framer's own input, which is the
model's (assumption log 3), is run the same way. -/
def Obligations.StepRunsInstruction : Prop :=
  (∀ (s : State) (addr data : Word) (i : Instr),
    s.framer = none → 8 ≤ addr.toNat → addr.toNat ≤ 11 → decode s.cfg (.command data) = .ok i →
    step (deliver (.hostWrite addr data) s) = exec i s) ∧
  ∀ (s : State) (bytes : List Byte) (i : Instr),
    s.framer = some bytes → decode s.cfg (.frame bytes) = .ok i → step s = exec i { s with framer := none }

/-! ### Dispatch and the immediate commands -/

/-- 40_command.md R121: a command written while BUSY is dropped, whichever command it is; it sets CMD_OVR and changes
nothing else. -/
def Obligations.BusyCommandDropped : Prop :=
  ∀ (s : State) (w : Word), s.status.busy = true →
    exec (decodeCommand w) s = .next { s with status := { s.status with cmdOvr := true } }

/-- 40_command.md R125: NOP completes in every state with BUSY = 0: DONE is set, ERR and ERRCODE are clear; no register,
memory or link request changes. With BUSY = 1 it is dropped like any other command. -/
def Obligations.NopCompletes : Prop :=
  ∀ s : State,
    (s.status.busy = false →
      exec .nop s = .next
        { s with
          errcode := .none, curOp := .none, wait := .idle
          status  := { s.status with busy := false, done := true, err := false } }) ∧
    (s.status.busy = true → exec .nop s = .next { s with status := { s.status with cmdOvr := true } })

/-- 40_command.md R126: every word whose OP is 0x07 to 0xFF, whatever its other bits, raises ILLEGAL_COMMAND (code 0x30)
and completes; the session, the registers and the memories are unchanged and nothing is emitted. -/
def Obligations.IllegalCompletes : Prop :=
  errByte .illegalCommand = 0x30#8 ∧ decodeCommand 0x00000100#32 = .nop ∧
  (∀ w : Word, 7 ≤ w.toNat % 256 → decodeCommand w = .illegal (BitVec.ofNat 8 w.toNat)) ∧
  ∀ (op : Byte) (s : State), s.status.busy = false →
    exec (.illegal op) s = .next
      { s with
        errcode := .illegalCommand, curOp := .none, wait := .idle
        status  := { s.status with busy := false, done := false, err := true } }

/-- 40_command.md R123, R127: a command whose precondition fails raises SEQUENCE and completes in the same event: no
BUSY, no link request, no other change. -/
def Obligations.PreconditionFailures : Prop :=
  ∀ s : State, s.status.busy = false →
    let rejected : Host.Outcome State Fault Refusal := .next
      { s with
        errcode := .sequence, curOp := .none, wait := .idle
        status  := { s.status with busy := false, done := false, err := true } }
    (s.seqState ≠ .disconnected → exec .openSession s = rejected) ∧
    (¬(s.seqState = .ready ∧ s.status.resValid = true) → exec .quant s = rejected ∧ exec .pack s = rejected) ∧
    (¬(s.seqState = .ready ∧ s.status.resValid = true ∧ s.status.planesValid = true) → exec .xfer s = rejected) ∧
    (s.seqState ≠ .ready → exec .close s = rejected)

/-! ### Acceptance of the long commands -/

/-- 43_session.md R170, 10_state.md R55: OPEN in DISCONNECTED clears the session-scope state, sets BUSY, emits CONNECT
and waits for its response. -/
def Obligations.OpenAccepted : Prop :=
  ∀ s : State, s.status.busy = false → s.seqState = .disconnected →
    exec .openSession s = .next
      { s with
        curOp := .openOp, seqState := .connecting, wait := .connect, errcode := .none
        linkOut := s.linkOut ++ [.connect]
        status :=
          { s.status with
            busy := true, done := false, err := false, negTo := false, cfgRcvd := false, cfgValid := false,
            mtuRcvd := false, resValid := false, planesValid := false, devResValid := false }
        epdcfg := #v[0#32, 0#32, 0#32], resW := 0, resH := 0, devW := 0, devH := 0, tu := 0, linkmax := 0
        planeLen := 0, packedMode := .mono, chunkIdx := 0, chunkCnt := 0, ilCnt := 0
        notifCnt := 0, malfCnt := 0, ignCnt := 0, plane := .b }

/-- 41_quantizer.md R133, R150, 42_bitplane.md R160: QUANT past its checks, and PACK with its precondition, set BUSY and
wait for the engine; no memory and no other register changes, and nothing is emitted. -/
def Obligations.ComputeAccepted : Prop :=
  ∀ s : State, s.status.busy = false → s.seqState = .ready → s.status.resValid = true →
    (s.alg ≠ .reserved → (s.alg = .errorDiffusion → s.kdiv ≠ 0 ∧ s.kanchor.toNat ≤ 4) →
      exec .quant s = .next
        { s with
          curOp := .quantOp, wait := .engine, errcode := .none
          status := { s.status with busy := true, done := false, err := false } }) ∧
    exec .pack s = .next
      { s with
        curOp := .packOp, wait := .engine, errcode := .none
        status := { s.status with busy := true, done := false, err := false } }

/-- 41_quantizer.md R150, 60_exceptions.md R235: QUANT's own checks, after the precondition and in this order:
ILLEGAL_ALG for ALG 3, then BAD_KERNEL for an error diffusion with KDIV 0 or KANCHOR above 4. A failing check completes the
command and touches nothing. -/
def Obligations.QuantChecks : Prop :=
  ∀ s : State, s.status.busy = false → s.seqState = .ready → s.status.resValid = true →
    (s.alg = .reserved →
      exec .quant s = .next
        { s with
          errcode := .illegalAlg, curOp := .none, wait := .idle
          status  := { s.status with busy := false, done := false, err := true } }) ∧
    (s.alg = .errorDiffusion → s.kdiv = 0 ∨ 5 ≤ s.kanchor.toNat →
      exec .quant s = .next
        { s with
          errcode := .badKernel, curOp := .none, wait := .idle
          status  := { s.status with busy := false, done := false, err := true } })

/-- 44_transfer.md R200, 45_codec.md R222: XFER with CLEAR_EN = 1 fixes the plane count PACK used and the chunk size
TU - 1, emits CLEAR, acknowledged, and waits for its response. -/
def Obligations.XferSendsClear : Prop :=
  ∀ s : State, s.status.busy = false → s.seqState = .ready → s.status.resValid = true → s.status.planesValid = true →
    2 ≤ s.tu.toNat → s.interleave ≠ 0 → s.clearEn = true →
    exec .xfer s = .next
      { s with
        curOp := .xferOp, seqState := .transferring, wait := .clearAck, errcode := .none
        status := { s.status with busy := true, done := false, err := false }
        nplanes := if s.packedMode = .tri then 2 else 1
        cs := s.tu - 1
        linkOut := s.linkOut ++ [.write [s.cfg.opClear] true] }

/-- 44_transfer.md R200, R203 to R206: XFER with CLEAR_EN = 0 starts plane B in its own event: `runSent` is the state
with every chunk up to the first acknowledged one emitted. -/
def Obligations.XferStartsPlane : Prop :=
  ∀ s : State, s.status.busy = false → s.seqState = .ready → s.status.resValid = true → s.status.planesValid = true →
    2 ≤ s.tu.toNat → s.interleave ≠ 0 → s.clearEn = false → s.planeLen ≠ 0 →
    exec .xfer s = .next
      (runSent
        { s with
          curOp := .xferOp, seqState := .transferring, errcode := .none
          status := { s.status with busy := true, done := false, err := false }
          nplanes := if s.packedMode = .tri then 2 else 1
          cs := s.tu - 1 }
        .b 0)

/-- 44_transfer.md R200, 60_exceptions.md R235: XFER's configuration errors, in this order; each starts teardown with
nothing else sent. -/
def Obligations.XferConfigErrors : Prop :=
  ∀ s : State, s.status.busy = false → s.seqState = .ready → s.status.resValid = true → s.status.planesValid = true →
    let failed : ErrCode → Host.Outcome State Fault Refusal := fun code => .next
      { s with
        curOp := .xferOp, seqState := .teardown, wait := .unsubscribe, errcode := code
        status := { s.status with busy := true, done := false, err := false, subscribed := false }
        linkOut := s.linkOut ++ [.unsubscribe] }
    (s.tu.toNat ≤ 1 → exec .xfer s = failed .cfgTransferUnit) ∧
    (2 ≤ s.tu.toNat → s.interleave = 0 → exec .xfer s = failed .cfgInterleave)

/-- 43_session.md R188, R189: CLOSE in READY starts teardown: UNSUBSCRIBE is emitted and notifications stop being
received. -/
def Obligations.CloseStartsTeardown : Prop :=
  ∀ s : State, s.status.busy = false → s.seqState = .ready →
    exec .close s = .next
      { s with
        curOp := .closeOp, seqState := .teardown, wait := .unsubscribe, errcode := .none
        status := { s.status with busy := true, done := false, err := false, subscribed := false }
        linkOut := s.linkOut ++ [.unsubscribe] }

/-- 41_quantizer.md R151, R152: LDKERN loads anchor, divisor and the 15 weights of the preset KPRESET names, from the
printed table, and completes; a preset above 5 raises BAD_KERNEL and loads nothing. -/
def Obligations.LdkernLoads : Prop :=
  ∀ s : State, s.status.busy = false →
    (∀ (a d : Nat) (rows : List (List Nat)), presetTable[s.kpreset.toNat]? = some (a, d, rows) →
      ∃ t, exec .ldkern s = .next t ∧
        t =
          { s with
            kanchor := BitVec.ofNat 3 a, kdiv := BitVec.ofNat 16 d, kw := t.kw, errcode := .none, curOp := .none
            wait := .idle, status := { s.status with busy := false, done := true, err := false } } ∧
        ∀ r < 3, ∀ c < 5, kernelWeight t r c = (rows.getD r []).getD c 0) ∧
    (6 ≤ s.kpreset.toNat →
      exec .ldkern s = .next
        { s with
          errcode := .badKernel, curOp := .none, wait := .idle
          status  := { s.status with busy := false, done := false, err := true } })

/-! ### The wire frames -/

/-- 45_codec.md R221 to R223, 60_exceptions.md R248: the frames INIT, CLEAR and REFRESH are one byte, acknowledged.
That running such a frame by itself also puts the sequencer at its wait point is the model's choice (assumption log 13). -/
def Obligations.BareFramesIssued : Prop :=
  ∀ s : State,
    exec .init s = .next { s with linkOut := s.linkOut ++ [.write [s.cfg.opInit] true], wait := .initAck } ∧
    exec .clear s = .next { s with linkOut := s.linkOut ++ [.write [s.cfg.opClear] true], wait := .clearAck } ∧
    exec .refresh s = .next { s with linkOut := s.linkOut ++ [.write [s.cfg.opRefresh] true], wait := .refreshAck }

/-- 45_codec.md R224, 44_transfer.md R204: WRITE_IMG is opcode, header and chunk; it is acknowledged when the interleave
counter runs out with it or it is the last of its plane. Running it by itself as one turn of R204's loop is the model's
choice (assumption log 13). -/
def Obligations.ImageFrameIssued : Prop :=
  ∀ (s : State) (hdr : Byte) (chunk : List Byte),
    let ack : Bool := decide (s.ilCnt = 1) || decide (s.chunkIdx.toNat + 1 = s.chunkCnt.toNat)
    exec (.writeImg hdr chunk) s = .next
      { s with
        linkOut  := s.linkOut ++ [.write (s.cfg.opWriteImg :: hdr :: chunk) ack]
        ilCnt    := s.ilCnt - 1
        chunkIdx := s.chunkIdx + 1
        wait     := if ack then .chunkAck else s.wait }

/-- 45_codec.md R225: the vendor frames are never emitted; the model refuses each under its own name
(assumption log 11). -/
def Obligations.VendorFramesRefused : Prop :=
  ∀ (s : State) (payload : List Byte),
    exec (.pinConfig payload) s = .refused (.vendorFrameNeverEmitted "PIN_CONFIG") ∧
    exec (.sleep payload) s = .refused (.vendorFrameNeverEmitted "SLEEP") ∧
    exec (.reset payload) s = .refused (.vendorFrameNeverEmitted "RESET") ∧
    exec (.configErase payload) s = .refused (.vendorFrameNeverEmitted "CONFIG_ERASE")

/-! ### The passes of the compute engine -/

/-- 41_quantizer.md R132: the nearest colour is the palette entry of least index among those at the least squared
distance, so a tie goes to the lower index. -/
def Obligations.NearestColourLeast : Prop :=
  ∀ (m : Mode) (sc : Int) (q : Rgb),
    ∃ k, (palette m)[k]? = some (nearestColour m sc q) ∧
      (∀ (j : Nat) (c : Rgb), (palette m)[j]? = some c → dist sc q (nearestColour m sc q) ≤ dist sc q c) ∧
      ∀ (j : Nat) (c : Rgb), j < k → (palette m)[j]? = some c → dist sc q (nearestColour m sc q) < dist sc q c

/-- 41_quantizer.md R133, R134: the engine's event after QUANT with ALG NONE sets every pixel of the image to the palette
colour nearest to its view and completes; no other accumulator, no plane byte and no register changes. -/
def Obligations.QuantPlainResult : Prop :=
  ∀ s : State, s.framer = none → s.curOp = .quantOp → s.wait = .engine → s.errcode = .none → s.alg = .plain →
    ∃ t, step (deliver .engine s) = .next t ∧
      t =
        { s with
          pix := t.pix, curOp := .none, wait := .idle
          status := { s.status with busy := false, done := true } } ∧
      (∀ p < s.resW.toNat * s.resH.toNat, readPixel t p = scaledColour (nearestColour s.mode 1 (viewPixel s p))) ∧
      ∀ i, 3 * (s.resW.toNat * s.resH.toNat) ≤ i → readAccumulator t i = readAccumulator s i

/-- 41_quantizer.md R133, R140, R141: with ALG OD each pixel `(x, y)` becomes the palette colour nearest, at scale 128,
to its view perturbed by the threshold of `(x mod 8, y mod 8)` and clipped; each pixel depends on itself alone, and nothing
outside the image changes. -/
def Obligations.QuantOrderedResult : Prop :=
  ∀ s : State, s.framer = none → s.curOp = .quantOp → s.wait = .engine → s.errcode = .none → s.alg = .ordered →
    ∃ t, step (deliver .engine s) = .next t ∧
      t =
        { s with
          pix := t.pix, curOp := .none, wait := .idle
          status := { s.status with busy := false, done := true } } ∧
      (∀ x < s.resW.toNat, ∀ y < s.resH.toNat,
        let p := y * s.resW.toNat + x
        let d : Int := (2 * (bayerEntry s (8 * (y % 8) + x % 8) : Int) - 64) * (s.amp.toNat : Int)
        readPixel t p = scaledColour (nearestColour s.mode 128
          { r := clamp (128 * (viewPixel s p).r + d) 0 32640
            g := clamp (128 * (viewPixel s p).g + d) 0 32640
            b := clamp (128 * (viewPixel s p).b + d) 0 32640 })) ∧
      ∀ i, 3 * (s.resW.toNat * s.resH.toNat) ≤ i → readAccumulator t i = readAccumulator s i

/-- 41_quantizer.md R135 to R137, R139: one pixel of the error-diffusion pass that does not overflow. The pixel `(x, y)`
takes the nearest colour of its raw accumulators; every other pixel of the image receives the floor of error times weight
over divisor, with the weight the kernel gives it, 0 for every pixel already processed. (With KDIV = 0, which R150 turns
away, that share is the model's choice: assumption log 28.) -/
def Obligations.DiffusionStep : Prop :=
  ∀ (s t : State) (x y : Nat), x < s.resW.toNat → y < s.resH.toNat →
    diffusePixel (y * s.resW.toNat + x) s = .going t →
    let a := readPixel s (y * s.resW.toNat + x)
    let c := nearestColour s.mode 256 a
    readPixel t (y * s.resW.toNat + x) = scaledColour c ∧
    (∀ nx < s.resW.toNat, ∀ ny < s.resH.toNat, (nx, ny) ≠ (x, y) →
      let share := fun e : Int => Int.fdiv (e * (weightBetween s x y nx ny : Int)) (s.kdiv.toNat : Int)
      readPixel t (ny * s.resW.toNat + nx) =
        { r := (readPixel s (ny * s.resW.toNat + nx)).r + share (a.r - 256 * c.r)
          g := (readPixel s (ny * s.resW.toNat + nx)).g + share (a.g - 256 * c.g)
          b := (readPixel s (ny * s.resW.toNat + nx)).b + share (a.b - 256 * c.b) }) ∧
    (∀ i, 3 * (s.resW.toNat * s.resH.toNat) ≤ i → readAccumulator t i = readAccumulator s i) ∧
    t = { s with pix := t.pix }

/-- 41_quantizer.md R135, R138: an accumulator update is exact while it stays in the signed 32-bit range, and otherwise is
not made; no clipping, no wrap-around. A pixel that overflows stops at the first update that does: its own colour and
every update before that one, in the order of R135, have taken effect. -/
def Obligations.AccumulatorUpdateExact : Prop :=
  (∀ (s : State) (i : Nat) (d : Int),
    let sum := (readAccumulator s i).toInt + d
    (-2147483648 ≤ sum → sum ≤ 2147483647 →
      ∃ t, addShare (i, d) s = .going t ∧ (readAccumulator t i).toInt = sum ∧
        (∀ j, j ≠ i → readAccumulator t j = readAccumulator s j) ∧ t = { s with pix := t.pix }) ∧
    (sum < -2147483648 ∨ 2147483647 < sum → addShare (i, d) s = .overflowed s)) ∧
  ∀ (s v : State) (x y : Nat), x < s.resW.toNat → y < s.resH.toNat →
    let p := y * s.resW.toNat + x
    diffusePixel p s = .overflowed v →
    ∃ k u, (pixelUpdates s x y)[k]? = some u ∧
      runAll addShare ((pixelUpdates s x y).take k)
        (writeScaledPixel s p (nearestColour s.mode 256 (readPixel s p))) = .going v ∧
      ((readAccumulator v u.1).toInt + u.2 < -2147483648 ∨ 2147483647 < (readAccumulator v u.1).toInt + u.2)

/-- 41_quantizer.md R133, R135, R138, R139, R142, 60_exceptions.md R234: the engine's event runs the pixel step over the
pixels in row-major order. Either no pixel overflows: pixel memory is that of the whole pass, DONE is set, and every pixel
of the image is exactly a palette colour; or pixel `p` is the first that overflows: pixel memory is that of the pixels
before it and of what `p` did up to its overflow, and the command ends with ACC_OVERFLOW. The session, the planes and
everything outside the image stay. -/
def Obligations.QuantDiffusionOutcome : Prop :=
  ∀ s : State, s.framer = none → s.curOp = .quantOp → s.wait = .engine → s.errcode = .none →
    s.alg = .errorDiffusion →
    ∃ t, step (deliver .engine s) = .next t ∧
      (∀ i, 3 * (s.resW.toNat * s.resH.toNat) ≤ i → readAccumulator t i = readAccumulator s i) ∧
      ((∃ u, diffusedTo s (s.resW.toNat * s.resH.toNat) = .going u ∧
        t =
          { s with
            pix := u.pix, curOp := .none, wait := .idle
            status := { s.status with busy := false, done := true } } ∧
        ∀ p < s.resW.toNat * s.resH.toNat, ∃ c ∈ palette s.mode, readPixel t p = scaledColour c) ∨
       ∃ (p : Nat) (u v : State), p < s.resW.toNat * s.resH.toNat ∧ diffusedTo s p = .going u ∧
        diffusePixel p u = .overflowed v ∧
        t =
          { s with
            pix := v.pix, curOp := .none, wait := .idle, errcode := .accOverflow
            status := { s.status with busy := false, err := true } })

/-- 41_quantizer.md R143, R144: on an image that is already of exact palette colours QUANT changes no accumulator, with
NONE and error diffusion always, with ordered dithering for AMP up to 254. -/
def Obligations.QuantIdempotent : Prop :=
  ∀ s : State, s.framer = none → s.curOp = .quantOp → s.wait = .engine → s.errcode = .none →
    s.alg = .plain ∨ s.alg = .errorDiffusion ∨ (s.alg = .ordered ∧ s.amp.toNat ≤ 254) →
    (∀ p < s.resW.toNat * s.resH.toNat, ∃ c ∈ palette s.mode, readPixel s p = scaledColour c) →
    ∃ t, step (deliver .engine s) = .next t ∧ t.status.done = true ∧ t.errcode = .none ∧
      ∀ i, readAccumulator t i = readAccumulator s i

/-- 42_bitplane.md R160 to R168: the engine's event after PACK. The bit of pixel `(x, y)` is bit `7 - (x mod 8)` of byte
`y * ceil(W/8) + x/8` of its plane, by the thresholds; padding bits are 0; no byte beyond the planes, no pixel and no other
register changes. -/
def Obligations.PackResult : Prop :=
  ∀ s : State, s.framer = none → s.curOp = .packOp → s.wait = .engine → s.errcode = .none →
    let w := s.resW.toNat
    let h := s.resH.toNat
    let rowBytes := (w + 7) / 8
    let below : Rgb → Bool := fun v => decide (v.r < 128 ∧ v.g < 128 ∧ v.b < 128)
    let above : Rgb → Bool := fun v => decide (128 < v.r ∧ 128 < v.g ∧ 128 < v.b)
    ∃ t, step (deliver .engine s) = .next t ∧
      t =
        { s with
          planeMem := t.planeMem, planeLen := BitVec.ofNat 24 (rowBytes * h), packedMode := s.mode
          curOp := .none, wait := .idle
          status := { s.status with busy := false, done := true, planesValid := true } } ∧
      (∀ x < w, ∀ y < h,
        (readPlaneByte t (y * rowBytes + x / 8)).getLsbD (7 - x % 8) =
          (match s.mode with
           | .mono => decide (128 < (viewPixel s (y * w + x)).r)
           | .tri => !below (viewPixel s (y * w + x))) ∧
        (s.mode = .tri →
          (readPlaneByte t (rowBytes * h + y * rowBytes + x / 8)).getLsbD (7 - x % 8) =
            (below (viewPixel s (y * w + x)) || above (viewPixel s (y * w + x))))) ∧
      (∀ x, w ≤ x → x < 8 * rowBytes → ∀ y < h,
        (readPlaneByte t (y * rowBytes + x / 8)).getLsbD (7 - x % 8) = false ∧
        (s.mode = .tri → (readPlaneByte t (rowBytes * h + y * rowBytes + x / 8)).getLsbD (7 - x % 8) = false)) ∧
      ∀ j, planeCount s.mode * (rowBytes * h) ≤ j → readPlaneByte t j = readPlaneByte s j

/-! ### Error entry -/

/-- 60_exceptions.md R230, R231, R236: raising an error records its code only while ERRCODE is 0; a local error
completes the command with ERR, a session error starts teardown (43_session.md R189), a teardown error is only recorded. -/
def Obligations.RaiseErrorEntry : Prop :=
  ∀ (s : State) (code : ErrCode),
    let first := if s.errcode = .none then code else s.errcode
    (code ∈ [ErrCode.illegalCommand, .sequence, .illegalAlg, .badKernel, .accOverflow] →
      raiseError code s =
        { s with errcode := first, curOp := .none, wait := .idle, status := { s.status with busy := false, err := true } }) ∧
    (code ∈ [ErrCode.cfgResolution, .cfgTransferUnit, .cfgInterleave, .cfgCapacity, .transfer, .cmdAck, .linkConnect,
        .linkSubscribe] →
      raiseError code s =
        { s with
          errcode := first, seqState := .teardown, wait := .unsubscribe, linkOut := s.linkOut ++ [.unsubscribe]
          status := { s.status with subscribed := false } }) ∧
    raiseError .linkTeardown s = { s with errcode := if s.errcode = .none then .linkTeardown else s.errcode }

/-! ### The session -/

/-- 43_session.md R171, R172: the responses to CONNECT and SUBSCRIBE. LINKMAX holds `min(maxpl, 65535)`; a successful
SUBSCRIBE emits INIT. -/
def Obligations.OpenResponses : Prop :=
  ∀ (s : State) (maxpl : Nat), s.framer = none →
    (s.wait = .connect →
      step (deliver (.linkRsp true maxpl) s) = .next
        { s with
          linkmax := BitVec.ofNat 16 (min maxpl 65535), linkOut := s.linkOut ++ [.subscribe], wait := .subscribe } ∧
      step (deliver (.linkRsp false maxpl) s) = .next (raiseError .linkConnect s)) ∧
    (s.wait = .subscribe →
      step (deliver (.linkRsp true maxpl) s) = .next
        { s with
          seqState := .negotiating, linkOut := s.linkOut ++ [.write [s.cfg.opInit] true], wait := .initAck
          status := { s.status with subscribed := true } } ∧
      step (deliver (.linkRsp false maxpl) s) = .next (raiseError .linkSubscribe s))

/-- 43_session.md R173, R181 to R184: the response to INIT and the negotiation timer. At the timeout NEG_TO is set and
the transfer unit falls back to LINKMAX if no MTU was received; then the resolution is decided (`resolve`). -/
def Obligations.NegotiationTimer : Prop :=
  ∀ (s : State) (maxpl : Nat), s.framer = none →
    let timedOut : State :=
      { s with
        timer := 0, tu := if s.status.mtuRcvd = true then s.tu else s.linkmax
        status := { s.status with negTo := true } }
    (s.wait = .initAck →
      step (deliver (.linkRsp false maxpl) s) = .next (raiseError .cmdAck s) ∧
      (s.status.cfgRcvd = true → s.status.mtuRcvd = true →
        step (deliver (.linkRsp true maxpl) s) = .next (resolve s)) ∧
      (s.status.cfgRcvd = false ∨ s.status.mtuRcvd = false →
        step (deliver (.linkRsp true maxpl) s) = .next
          (if s.tNeg = 0 then resolve timedOut else { s with timer := s.tNeg, wait := .negotiate }))) ∧
    (s.wait = .negotiate → 1 ≤ s.timer.toNat →
      step (deliver .tick s) = .next (if s.timer = 1 then resolve timedOut else { s with timer := s.timer - 1 }))

/-- 43_session.md R185, R186, 90_conflicts.md C1: the resolution policy and the capacity check. An explicit resolution
with both dimensions not 0 wins, else the device's, else CFG_RESOLUTION; an image that does not fit raises CFG_CAPACITY;
otherwise OPEN completes in READY. -/
def Obligations.ResolutionPolicy : Prop :=
  ∀ s : State, s.errcode = .none →
    let explicit := s.expW ≠ 0 ∧ s.expH ≠ 0
    let fit : Half → Half → Prop := fun w h =>
      w.toNat * h.toNat ≤ s.cfg.pixCap ∧ 2 * ((w.toNat + 7) / 8 * h.toNat) ≤ s.cfg.planeCap
    let ready : Half → Half → State := fun w h =>
      { s with
        resW := w, resH := h, seqState := .ready, curOp := .none, wait := .idle
        status := { s.status with resValid := true, busy := false, done := true } }
    (explicit → fit s.expW s.expH → resolve s = ready s.expW s.expH) ∧
    (explicit → ¬fit s.expW s.expH → resolve s = raiseError .cfgCapacity s) ∧
    (¬explicit → s.status.devResValid = true → fit s.devW s.devH → resolve s = ready s.devW s.devH) ∧
    (¬explicit → s.status.devResValid = true → ¬fit s.devW s.devH → resolve s = raiseError .cfgCapacity s) ∧
    (¬explicit → s.status.devResValid = false → resolve s = raiseError .cfgResolution s)

/-- 43_session.md R176 to R178, 10_state.md R38, 30_encoding.md R102: the first notification of a session is the config
record whatever it holds. Twelve or more bytes are recorded and the model identifier, byte 7, is looked up; fewer bytes are
counted as malformed. A counter adds 1 up to 255 and stays there (00_scope.md R12). -/
def Obligations.ConfigNotification : Prop :=
  ∀ (s : State) (bytes : List Byte), s.framer = none → s.status.subscribed = true → s.status.cfgRcvd = false →
    s.status.mtuRcvd = false →
    let count : Byte → Byte := fun c => BitVec.ofNat 8 (min (c.toNat + 1) 255)
    (12 ≤ bytes.length →
      ∃ t, step (deliver (.notify bytes) s) = .next t ∧
        (∀ i < 12, some (byteOf (t.epdcfg.toList.getD (i / 4) 0) (i % 4)) = bytes[i]?) ∧
        (∀ m, bytes[7]? = some m →
          match lookupModel s.cfg.modelRes m with
          | some (w, h) => t.devW = w ∧ t.devH = h ∧ t.status.devResValid = true
          | none => t.devW = s.devW ∧ t.devH = s.devH ∧ t.status.devResValid = s.status.devResValid) ∧
        t =
          { s with
            epdcfg := t.epdcfg, devW := t.devW, devH := t.devH, notifCnt := count s.notifCnt
            status :=
              { s.status with cfgRcvd := true, cfgValid := true, devResValid := t.status.devResValid } }) ∧
    (bytes.length < 12 →
      step (deliver (.notify bytes) s) = .next
        { s with
          notifCnt := count s.notifCnt, malfCnt := count s.malfCnt
          status := { s.status with cfgRcvd := true } })

/-- 43_session.md R176, R179, R181: the first `mtu=` text after the config notification, while NEGOTIATING, is the
transfer unit; at W_NEGOTIATE it ends the negotiation in the same event. The counter adds 1 up to 255 and stays there. -/
def Obligations.MtuNotification : Prop :=
  ∀ (s : State) (bytes : List Byte) (n : Half), s.framer = none → s.status.subscribed = true →
    s.status.cfgRcvd = true → s.status.mtuRcvd = false → s.seqState = .negotiating → mtuMatch bytes = some n →
    let count : Byte → Byte := fun c => BitVec.ofNat 8 (min (c.toNat + 1) 255)
    let latched : State :=
      { s with tu := n, notifCnt := count s.notifCnt, status := { s.status with mtuRcvd := true } }
    step (deliver (.notify bytes) s) = .next (if s.wait = .negotiate then resolve latched else latched)

/-- 43_session.md R176, R180: any other later notification is only counted: as malformed if it is no well-formed UTF-8,
else as ignored. A counter adds 1 up to 255 and stays there (00_scope.md R12). -/
def Obligations.LaterNotification : Prop :=
  ∀ (s : State) (bytes : List Byte), s.framer = none → s.status.subscribed = true → s.status.cfgRcvd = true →
    (s.wait = .negotiate → s.status.mtuRcvd = false) →
    let count : Byte → Byte := fun c => BitVec.ofNat 8 (min (c.toNat + 1) 255)
    (utf8Ok bytes = false →
      step (deliver (.notify bytes) s) = .next
        { s with notifCnt := count s.notifCnt, malfCnt := count s.malfCnt }) ∧
    (utf8Ok bytes = true → mtuMatch bytes = none ∨ s.seqState ≠ .negotiating ∨ s.status.mtuRcvd = true →
      step (deliver (.notify bytes) s) = .next
        { s with notifCnt := count s.notifCnt, ignCnt := count s.ignCnt })

/-- 30_encoding.md R103: a payload matches exactly when it is `mtu=` followed by one or more ASCII decimal digits of
value at most 65535, and then gives that value. Every match is well-formed text (R104). -/
def Obligations.MtuText : Prop :=
  ∀ (bytes : List Byte) (n : Half),
    (mtuMatch bytes = some n ↔
      ∃ digits : List Byte, digits ≠ [] ∧ (∀ d ∈ digits, 0x30 ≤ d.toNat ∧ d.toNat ≤ 0x39) ∧
        bytes = [0x6D#8, 0x74#8, 0x75#8, 0x3D#8] ++ digits ∧ digitsValue digits = n.toNat) ∧
    (mtuMatch bytes = some n → utf8Ok bytes = true)

/-- 30_encoding.md R104: a payload is well-formed text exactly when it is a concatenation of sequences of the rows of the
table; in particular the empty payload is. -/
def Obligations.Utf8WellFormed : Prop :=
  ∀ bytes : List Byte,
    utf8Ok bytes = true ↔
      ∃ parts : List (List Byte), bytes = parts.flatten ∧ ∀ part ∈ parts, ∃ row ∈ utf8Rows, fitsRow part row

/-- 43_session.md R190, R191: the teardown responses. A failure is recorded as LINK_TEARDOWN if ERRCODE is 0 and never
stops teardown; after DISCONNECT the session is over, RES_VALID and PLANES_VALID are cleared and the command completes. -/
def Obligations.TeardownResponses : Prop :=
  ∀ (s : State) (ok : Bool) (maxpl : Nat), s.framer = none →
    let code := if ok = false ∧ s.errcode = .none then .linkTeardown else s.errcode
    (s.wait = .unsubscribe →
      step (deliver (.linkRsp ok maxpl) s) = .next
        { s with errcode := code, linkOut := s.linkOut ++ [.disconnect], wait := .disconnect }) ∧
    (s.wait = .disconnect →
      step (deliver (.linkRsp ok maxpl) s) = .next
        { s with
          errcode := code, seqState := .disconnected, curOp := .none, wait := .idle
          status :=
            { s.status with
              resValid := false, planesValid := false, busy := false
              done := if code = .none then true else s.status.done
              err := if code = .none then s.status.err else true } })

/-! ### The transfer -/

/-- 44_transfer.md R201 to R206: the response to CLEAR and its settle delay; plane B starts at the end of the delay, at
once if the delay is 0. -/
def Obligations.ClearDelay : Prop :=
  ∀ (s : State) (maxpl : Nat), Invariant s →
    (s.wait = .clearAck →
      step (deliver (.linkRsp false maxpl) s) = .next (raiseError .cmdAck s) ∧
      step (deliver (.linkRsp true maxpl) s) = .next
        (if s.tClear = 0 then runSent { s with timer := 0 } .b 0
         else { s with timer := s.tClear, wait := .settleClear })) ∧
    (s.wait = .settleClear →
      step (deliver .tick s) = .next
        (if s.timer = 1 then runSent { s with timer := 0 } .b 0 else { s with timer := s.timer - 1 }))

/-- 44_transfer.md R207 to R209: the response to an acknowledged chunk and the pacing delay. A failure ends the session
with TRANSFER; after the delay the next run of the plane is sent, then plane R if PACK made one, then REFRESH. -/
def Obligations.ChunkAcknowledged : Prop :=
  ∀ (s : State) (maxpl : Nat), Invariant s →
    (s.wait = .chunkAck →
      step (deliver (.linkRsp false maxpl) s) = .next (raiseError .transfer s) ∧
      step (deliver (.linkRsp true maxpl) s) = .next
        (if s.tPace = 0 then transferGoesOn { s with ilCnt := s.interleave, timer := 0 }
         else { s with ilCnt := s.interleave, timer := s.tPace, wait := .pace })) ∧
    (s.wait = .pace →
      step (deliver .tick s) = .next
        (if s.timer = 1 then transferGoesOn { s with timer := 0 } else { s with timer := s.timer - 1 }))

/-- 44_transfer.md R210, R211: the response to REFRESH and its settle delay; then teardown starts. -/
def Obligations.RefreshDelay : Prop :=
  ∀ (s : State) (maxpl : Nat), s.framer = none →
    let ended : State :=
      { s with
        timer := 0, seqState := .teardown, wait := .unsubscribe, linkOut := s.linkOut ++ [.unsubscribe]
        status := { s.status with subscribed := false } }
    (s.wait = .refreshAck →
      step (deliver (.linkRsp false maxpl) s) = .next (raiseError .cmdAck s) ∧
      step (deliver (.linkRsp true maxpl) s) = .next
        (if s.tRefresh = 0 then ended else { s with timer := s.tRefresh, wait := .settleRefresh })) ∧
    (s.wait = .settleRefresh → 1 ≤ s.timer.toNat →
      step (deliver .tick s) = .next (if s.timer = 1 then ended else { s with timer := s.timer - 1 }))

/-- 44_transfer.md R205: the chunks of a plane, one after the other, carry exactly the bytes of the plane in order;
every chunk but the last has `CS` bytes and the last at least one. -/
def Obligations.ChunkCoverage : Prop :=
  ∀ (s : State) (pl : Plane), s.cs ≠ 0 →
    ((List.range (chunkTotal s)).flatMap (chunkBytes s pl) =
      planeSlice s (planeIndex pl * s.planeLen.toNat) s.planeLen.toNat) ∧
    (∀ i, i + 1 < chunkTotal s → (chunkBytes s pl i).length = s.cs.toNat) ∧
    (∀ i, i + 1 = chunkTotal s →
      (chunkBytes s pl i).length = s.planeLen.toNat - i * s.cs.toNat ∧ 1 ≤ (chunkBytes s pl i).length ∧
      (chunkBytes s pl i).length ≤ s.cs.toNat)

/-- 70_reset_and_hazards.md R273, 44_transfer.md R206: a plane of `n` chunks with interleave `N` has `ceil(n / N)`
acknowledged chunks. -/
def Obligations.AcknowledgedCount : Prop :=
  ∀ s : State, s.interleave ≠ 0 →
    ((List.range (chunkTotal s)).filter (chunkAcked s)).length =
      (chunkTotal s + s.interleave.toNat - 1) / s.interleave.toNat

/-- 60_exceptions.md R248: what one event emits is nothing, or fire-and-forget writes followed by one request that has a
response, and the sequencer then stands at the wait point that names this request; until the response arrives nothing more is
emitted. -/
def Obligations.OneOutstandingRequest : Prop :=
  (∀ s t : State, s.framer = none → step s = .next t →
    ∃ emitted, t.linkOut = s.linkOut ++ emitted ∧ OneOutstanding t.cfg emitted t.wait) ∧
  ∀ (s t : State) (e : Event), ControlOk s → awaitsResponse s.wait = true → (∀ ok maxpl, e ≠ .linkRsp ok maxpl) →
    step (deliver e s) = .next t → t.linkOut = s.linkOut

/-- 44_transfer.md R205, R206, 45_codec.md R221 to R225: from a state that meets the invariant, every request a step
emits is a session request, one of the three bare frames, acknowledged, or a chunk of the packed planes with the header, the
bytes and the acknowledgment the rules give it; and one step emits no more chunks than the interleave count (R213). -/
def Obligations.LegalRequests : Prop :=
  ∀ s t : State, Invariant s → step s = .next t →
    ∃ emitted, t.linkOut = s.linkOut ++ emitted ∧ (∀ r ∈ emitted, LegalRequest t r) ∧
      emitted.length ≤ max 1 t.interleave.toNat

/-- 60_exceptions.md R245, R249, 43_session.md R175: an input that nothing waits for has no effect at all. -/
def Obligations.UnexpectedInputsIgnored : Prop :=
  ∀ s : State, s.framer = none →
    (s.wait ∉ [Wait.negotiate, .settleClear, .pace, .settleRefresh] → step (deliver .tick s) = .next s) ∧
    (s.wait ∉ [Wait.connect, .subscribe, .initAck, .clearAck, .chunkAck, .refreshAck, .unsubscribe, .disconnect] →
      ∀ ok maxpl, step (deliver (.linkRsp ok maxpl) s) = .next s) ∧
    (s.wait ≠ .engine → step (deliver .engine s) = .next s) ∧
    (s.status.subscribed = false → ∀ bytes, step (deliver (.notify bytes) s) = .next s)

/-! ### Host accesses -/

/-- 20_memory.md R70 to R75, 10_state.md R22, R46: the address map. Bits [1:0] play no part; each register, plane word
and pixel is reached at its address and at no other, so every other address, a reserved offset or one in no region, is
unmapped. -/
def Obligations.AddressMap : Prop :=
  ∀ p : Config.Params, p.Ok →
    (∀ a b : Word, a.toNat / 4 = b.toNat / 4 → hostTarget p a = hostTarget p b) ∧
    (∀ r : Reg, hostTarget p (regAddress r) = .reg r) ∧
    (∀ j, 4 * j < p.planeCap → hostTarget p (BitVec.ofNat 32 (0x00010000 + 4 * j)) = .planeWord j) ∧
    (∀ q, q < p.pixCap → hostTarget p (BitVec.ofNat 32 (0x01000000 + 4 * q)) = .pixel q) ∧
    (∀ (a : Word) (r : Reg), hostTarget p a = .reg r → 4 * (a.toNat / 4) = (regAddress r).toNat) ∧
    (∀ (a : Word) (j : Nat), hostTarget p a = .planeWord j → a.toNat / 4 = 0x4000 + j ∧ 4 * j < p.planeCap) ∧
    (∀ (a : Word) (q : Nat), hostTarget p a = .pixel q → a.toNat / 4 = 0x400000 + q ∧ q < p.pixCap) ∧
    ∀ a : Word, 0xC0 ≤ a.toNat ∧ a.toNat < 0x10000 ∨ 0x7C ≤ a.toNat ∧ a.toNat < 0x80 ∨
        0x10000 + 4 * ((p.planeCap + 3) / 4) ≤ a.toNat ∧ a.toNat < 0x1000000 ∨ 0x1000000 + 4 * p.pixCap ≤ a.toNat →
      hostTarget p a = .unmapped

/-- 10_state.md R22 to R46, 20_memory.md R72, R75, R80: while BUSY = 0 a host write to a register other than CMD and
STATUS stores its writable bits, which the register then reads back; every other register reads as before, and nothing
but the writable registers changes. A write to a read-only register, to the plane window or to an unmapped address has no
effect at all. -/
def Obligations.RegisterWrites : Prop :=
  ∀ (s : State) (addr d : Word), s.framer = none → s.status.busy = false →
    (∀ r, hostTarget s.cfg addr = .reg r → r ≠ .cmd → r ≠ .status →
      ∃ t, step (deliver (.hostWrite addr d) s) = .next t ∧
        readReg t r = (if storedBits r = 0 then readReg s r else d &&& storedBits r) ∧
        (∀ r', r' ≠ r → readReg t r' = readReg s r') ∧
        (storedBits r = 0 → t = s) ∧
        t =
          { s with
            mode := t.mode, alg := t.alg, clearEn := t.clearEn, doneIe := t.doneIe, errIe := t.errIe
            expW := t.expW, expH := t.expH, interleave := t.interleave, amp := t.amp
            tNeg := t.tNeg, tClear := t.tClear, tRefresh := t.tRefresh, tPace := t.tPace
            kdiv := t.kdiv, kanchor := t.kanchor, kpreset := t.kpreset, kw := t.kw, bayer := t.bayer }) ∧
    (∀ j, hostTarget s.cfg addr = .planeWord j → step (deliver (.hostWrite addr d) s) = .next s) ∧
    (hostTarget s.cfg addr = .unmapped → step (deliver (.hostWrite addr d) s) = .next s)

/-- 10_state.md R27, 60_exceptions.md R238: the interrupt output is 1 exactly if DONE and DONE_IE are, or ERR and ERR_IE
are, as the host reads them. A host write to STATUS clears exactly DONE, ERR, NEG_TO and CMD_OVR where the data bit is 1,
BUSY or not, and changes nothing else; clearing DONE and ERR takes the interrupt output down. -/
def Obligations.StatusWriteOneToClear : Prop :=
  (∀ s : State,
    irq s = true ↔
      ((readReg s .status).getLsbD 1 = true ∧ (readReg s .ie).getLsbD 0 = true) ∨
      ((readReg s .status).getLsbD 2 = true ∧ (readReg s .ie).getLsbD 1 = true)) ∧
  ∀ (s : State) (d : Word), s.framer = none →
    ∃ t, step (deliver (.hostWrite (regAddress .status) d) s) = .next t ∧
      t = { s with status := t.status } ∧
      readReg t .status = readReg s .status &&& ~~~(d &&& 0x0000001E#32) ∧
      (d.getLsbD 1 = true → d.getLsbD 2 = true → irq t = false)

/-- 20_memory.md R82, 70_reset_and_hazards.md R266: while BUSY = 1 a host write to anything but CMD, STATUS and IE has
no effect at all; a write to IE takes effect. -/
def Obligations.BusyWrites : Prop :=
  ∀ (s : State) (addr d : Word), s.framer = none → s.status.busy = true →
    (hostTarget s.cfg addr ∉ [Target.reg .cmd, .reg .status, .reg .ie] →
      step (deliver (.hostWrite addr d) s) = .next s) ∧
    (hostTarget s.cfg addr = .reg .ie →
      step (deliver (.hostWrite addr d) s) = .next { s with doneIe := d.getLsbD 0, errIe := d.getLsbD 1 })

/-- 20_memory.md R72, R75, R77, R80, R82: a host read answers into `rdData` and has no other effect on the spec's state:
a register's value; 0 for an unmapped address; the plane word or the pixel word while BUSY = 0; while BUSY = 1 a window
answers the next free value, and only the counter of free values moves with it (assumption log 7). -/
def Obligations.HostReads : Prop :=
  ∀ (s : State) (addr : Word), s.framer = none →
    (∀ r, hostTarget s.cfg addr = .reg r → step (deliver (.hostRead addr) s) = .next { s with rdData := readReg s r }) ∧
    (hostTarget s.cfg addr = .unmapped → step (deliver (.hostRead addr) s) = .next { s with rdData := 0 }) ∧
    (∀ j, hostTarget s.cfg addr = .planeWord j → s.status.busy = false →
      ∃ v, step (deliver (.hostRead addr) s) = .next { s with rdData := v } ∧
        ∀ k < 4, byteOf v k = if 4 * j + k < s.cfg.planeCap then readPlaneByte s (4 * j + k) else 0) ∧
    (∀ q, hostTarget s.cfg addr = .pixel q → s.status.busy = false →
      ∃ v, step (deliver (.hostRead addr) s) = .next { s with rdData := v } ∧
        (byteOf v 0).toNat = (view (readAccumulator s (3 * q)).toInt).toNat ∧
        (byteOf v 1).toNat = (view (readAccumulator s (3 * q + 1)).toInt).toNat ∧
        (byteOf v 2).toNat = (view (readAccumulator s (3 * q + 2)).toInt).toNat ∧ byteOf v 3 = 0) ∧
    ((∃ j, hostTarget s.cfg addr = .planeWord j ∨ hostTarget s.cfg addr = .pixel j) → s.status.busy = true →
      ∃ v, step (deliver (.hostRead addr) s) = .next { s with rdData := v, freeIdx := s.freeIdx + 1 })

/-- 20_memory.md R77, 41_quantizer.md R131: while BUSY = 0 a host write to a pixel word loads 256 times each of its three
bytes into the pixel's accumulators, so that the pixel reads back as written with bits [31:24] 0; every other pixel and
everything else stays. -/
def Obligations.PixelWrite : Prop :=
  ∀ (s : State) (addr d : Word) (q : Nat), s.framer = none → s.status.busy = false → hostTarget s.cfg addr = .pixel q →
    ∃ t, step (deliver (.hostWrite addr d) s) = .next t ∧ t = { s with pix := t.pix } ∧
      readPixel t q =
        { r := 256 * ((d.toNat % 256 : Nat) : Int)
          g := 256 * ((d.toNat / 256 % 256 : Nat) : Int)
          b := 256 * ((d.toNat / 65536 % 256 : Nat) : Int) } ∧
      pixelWord t q = d &&& 0x00FFFFFF#32 ∧
      ∀ p, p ≠ q → readPixel t p = readPixel s p

/-! ### Reset -/

/-- 70_reset_and_hazards.md R260 to R262, 10_state.md R45: after reset, at power-on or by the reset input at any time,
every register reads its reset value, the hidden state is clear, the sequencer is idle in DISCONNECTED, IRQ is 0, and no link
request was emitted. -/
def Obligations.ResetValues : Prop :=
  (∀ r, readReg State.reset r = resetWord r) ∧
  (∀ row < 8, ∀ col < 8, bayerEntry State.reset (8 * row + col) = (bayerMatrix.getD row []).getD col 0) ∧
  State.reset.linkOut = [] ∧
  ∀ s : State, s.framer = none →
    ∃ t, step (deliver .resetInput s) = .next t ∧
      (∀ r, readReg t r = resetWord r) ∧ t.seqState = .disconnected ∧ t.wait = .idle ∧ t.curOp = .none ∧
      t.timer = 0 ∧ t.cs = 0 ∧ t.base = 0 ∧ t.sel = 0 ∧ t.nplanes = 0 ∧ irq t = false ∧ t.linkOut = s.linkOut ∧
      t.cfg = s.cfg

/-! ### The whole machine -/

/-- 60_exceptions.md R249, 20_memory.md R88: the unit's behaviour is total: with nothing in the framer's own input a step
always gives a next state, which leaves the parameters as they are (10_state.md R20). -/
def Obligations.StepTotal : Prop :=
  ∀ s : State, s.framer = none → ∃ t, step s = .next t ∧ t.cfg = s.cfg ∧ t.framer = none

/-- 10_state.md R48, R55, 20_memory.md R70: only a host write to a pixel word, QUANT and reset change pixel memory; only
PACK and reset change plane memory. -/
def Obligations.MemoryWriters : Prop :=
  ∀ (s t : State) (e : Event), s.framer = none → step (deliver e s) = .next t → e ≠ .resetInput →
    (t.pix ≠ s.pix →
      (∃ addr d q, e = .hostWrite addr d ∧ hostTarget s.cfg addr = .pixel q ∧ s.status.busy = false) ∨
      (e = .engine ∧ s.wait = .engine ∧ s.curOp = .quantOp)) ∧
    (t.planeMem ≠ s.planeMem → e = .engine ∧ s.wait = .engine ∧ s.curOp = .packOp)

/-- 43_session.md R187, R177, R179: once negotiation is over, the transfer unit and the resolution of the session stay
until the next OPEN or a reset, whatever arrives. -/
def Obligations.SessionParametersFixed : Prop :=
  ∀ (s t : State) (e : Event), ControlOk s → step (deliver e s) = .next t → e ≠ .resetInput →
    s.seqState ∈ [SeqState.ready, .transferring, .refreshing, .teardown] →
    t.tu = s.tu ∧ t.resW = s.resW ∧ t.resH = s.resH

/-- 43_session.md R187: a step that completes OPEN leaves the unit in READY with DONE and a valid resolution, or in
DISCONNECTED with ERR and an error code. -/
def Obligations.OpenOutcome : Prop :=
  ∀ (s t : State) (e : Event), Invariant s → step (deliver e s) = .next t → e ≠ .resetInput → s.curOp = .openOp →
    t.curOp ≠ .openOp →
    t.curOp = .none ∧ t.status.busy = false ∧
    ((t.seqState = .ready ∧ t.status.done = true ∧ t.status.err = false ∧ t.status.resValid = true) ∨
     (t.seqState = .disconnected ∧ t.status.err = true ∧ t.status.done = false ∧ t.errcode ≠ .none))

/-- 70_reset_and_hazards.md R262, R263: the machine right after reset meets the invariant. -/
def Obligations.InvAtReset : Prop := Invariant State.reset

/-- 40_command.md R128, 10_state.md R26, R27, R50: the sequencer is always at a legal position, BUSY is set exactly while
a command is in progress, and SUBSCRIBED exactly in the states that receive notifications. -/
def Obligations.ControlKept : Prop :=
  ∀ s t : State, ControlOk s → step s = .next t → ControlOk t

/-- The invariant of the machine is kept by every step: control (40_command.md R128), timer (43_session.md R182), flags
(40_command.md R124), the canonical form of both memories and their capacities (10_state.md R47, R48), the session
(43_session.md R185, R186) and the transfer (44_transfer.md R203 to R207). -/
def Obligations.InvKept : Prop :=
  ∀ s t : State, Invariant s → step s = .next t → Invariant t
end

