-- ==== Sys2Proof/Laws/State.lean ====
section
/-! SUPPORT. What each update of the state does to each field, so that no later proof unfolds a record update. -/

namespace Sys2Proof.Machine

/-! ### emit -/

@[simp] theorem emit_cfg (k : LinkReq) (s : State) : (emit k s).cfg = s.cfg := rfl
@[simp] theorem emit_mode (k : LinkReq) (s : State) : (emit k s).mode = s.mode := rfl
@[simp] theorem emit_alg (k : LinkReq) (s : State) : (emit k s).alg = s.alg := rfl
@[simp] theorem emit_clearEn (k : LinkReq) (s : State) : (emit k s).clearEn = s.clearEn := rfl
@[simp] theorem emit_status (k : LinkReq) (s : State) : (emit k s).status = s.status := rfl
@[simp] theorem emit_errcode (k : LinkReq) (s : State) : (emit k s).errcode = s.errcode := rfl
@[simp] theorem emit_doneIe (k : LinkReq) (s : State) : (emit k s).doneIe = s.doneIe := rfl
@[simp] theorem emit_errIe (k : LinkReq) (s : State) : (emit k s).errIe = s.errIe := rfl
@[simp] theorem emit_seqState (k : LinkReq) (s : State) : (emit k s).seqState = s.seqState := rfl
@[simp] theorem emit_wait (k : LinkReq) (s : State) : (emit k s).wait = s.wait := rfl
@[simp] theorem emit_plane (k : LinkReq) (s : State) : (emit k s).plane = s.plane := rfl
@[simp] theorem emit_expW (k : LinkReq) (s : State) : (emit k s).expW = s.expW := rfl
@[simp] theorem emit_expH (k : LinkReq) (s : State) : (emit k s).expH = s.expH := rfl
@[simp] theorem emit_resW (k : LinkReq) (s : State) : (emit k s).resW = s.resW := rfl
@[simp] theorem emit_resH (k : LinkReq) (s : State) : (emit k s).resH = s.resH := rfl
@[simp] theorem emit_devW (k : LinkReq) (s : State) : (emit k s).devW = s.devW := rfl
@[simp] theorem emit_devH (k : LinkReq) (s : State) : (emit k s).devH = s.devH := rfl
@[simp] theorem emit_tu (k : LinkReq) (s : State) : (emit k s).tu = s.tu := rfl
@[simp] theorem emit_linkmax (k : LinkReq) (s : State) : (emit k s).linkmax = s.linkmax := rfl
@[simp] theorem emit_interleave (k : LinkReq) (s : State) : (emit k s).interleave = s.interleave := rfl
@[simp] theorem emit_amp (k : LinkReq) (s : State) : (emit k s).amp = s.amp := rfl
@[simp] theorem emit_tNeg (k : LinkReq) (s : State) : (emit k s).tNeg = s.tNeg := rfl
@[simp] theorem emit_tClear (k : LinkReq) (s : State) : (emit k s).tClear = s.tClear := rfl
@[simp] theorem emit_tRefresh (k : LinkReq) (s : State) : (emit k s).tRefresh = s.tRefresh := rfl
@[simp] theorem emit_tPace (k : LinkReq) (s : State) : (emit k s).tPace = s.tPace := rfl
@[simp] theorem emit_epdcfg (k : LinkReq) (s : State) : (emit k s).epdcfg = s.epdcfg := rfl
@[simp] theorem emit_planeLen (k : LinkReq) (s : State) : (emit k s).planeLen = s.planeLen := rfl
@[simp] theorem emit_packedMode (k : LinkReq) (s : State) : (emit k s).packedMode = s.packedMode := rfl
@[simp] theorem emit_chunkIdx (k : LinkReq) (s : State) : (emit k s).chunkIdx = s.chunkIdx := rfl
@[simp] theorem emit_chunkCnt (k : LinkReq) (s : State) : (emit k s).chunkCnt = s.chunkCnt := rfl
@[simp] theorem emit_ilCnt (k : LinkReq) (s : State) : (emit k s).ilCnt = s.ilCnt := rfl
@[simp] theorem emit_notifCnt (k : LinkReq) (s : State) : (emit k s).notifCnt = s.notifCnt := rfl
@[simp] theorem emit_malfCnt (k : LinkReq) (s : State) : (emit k s).malfCnt = s.malfCnt := rfl
@[simp] theorem emit_ignCnt (k : LinkReq) (s : State) : (emit k s).ignCnt = s.ignCnt := rfl
@[simp] theorem emit_kdiv (k : LinkReq) (s : State) : (emit k s).kdiv = s.kdiv := rfl
@[simp] theorem emit_kanchor (k : LinkReq) (s : State) : (emit k s).kanchor = s.kanchor := rfl
@[simp] theorem emit_kpreset (k : LinkReq) (s : State) : (emit k s).kpreset = s.kpreset := rfl
@[simp] theorem emit_kw (k : LinkReq) (s : State) : (emit k s).kw = s.kw := rfl
@[simp] theorem emit_bayer (k : LinkReq) (s : State) : (emit k s).bayer = s.bayer := rfl
@[simp] theorem emit_pix (k : LinkReq) (s : State) : (emit k s).pix = s.pix := rfl
@[simp] theorem emit_planeMem (k : LinkReq) (s : State) : (emit k s).planeMem = s.planeMem := rfl
@[simp] theorem emit_timer (k : LinkReq) (s : State) : (emit k s).timer = s.timer := rfl
@[simp] theorem emit_curOp (k : LinkReq) (s : State) : (emit k s).curOp = s.curOp := rfl
@[simp] theorem emit_cs (k : LinkReq) (s : State) : (emit k s).cs = s.cs := rfl
@[simp] theorem emit_base (k : LinkReq) (s : State) : (emit k s).base = s.base := rfl
@[simp] theorem emit_sel (k : LinkReq) (s : State) : (emit k s).sel = s.sel := rfl
@[simp] theorem emit_nplanes (k : LinkReq) (s : State) : (emit k s).nplanes = s.nplanes := rfl
@[simp] theorem emit_inputs (k : LinkReq) (s : State) : (emit k s).inputs = s.inputs := rfl
@[simp] theorem emit_linkOut (k : LinkReq) (s : State) : (emit k s).linkOut = s.linkOut ++ [k] := rfl
@[simp] theorem emit_rdData (k : LinkReq) (s : State) : (emit k s).rdData = s.rdData := rfl
@[simp] theorem emit_framer (k : LinkReq) (s : State) : (emit k s).framer = s.framer := rfl
@[simp] theorem emit_freeIdx (k : LinkReq) (s : State) : (emit k s).freeIdx = s.freeIdx := rfl
@[simp] theorem emit_epoch (k : LinkReq) (s : State) : (emit k s).epoch = s.epoch := rfl

/-! ### waitAt -/

@[simp] theorem waitAt_cfg (w : Wait) (s : State) : (waitAt w s).cfg = s.cfg := rfl
@[simp] theorem waitAt_mode (w : Wait) (s : State) : (waitAt w s).mode = s.mode := rfl
@[simp] theorem waitAt_alg (w : Wait) (s : State) : (waitAt w s).alg = s.alg := rfl
@[simp] theorem waitAt_clearEn (w : Wait) (s : State) : (waitAt w s).clearEn = s.clearEn := rfl
@[simp] theorem waitAt_status (w : Wait) (s : State) : (waitAt w s).status = s.status := rfl
@[simp] theorem waitAt_errcode (w : Wait) (s : State) : (waitAt w s).errcode = s.errcode := rfl
@[simp] theorem waitAt_doneIe (w : Wait) (s : State) : (waitAt w s).doneIe = s.doneIe := rfl
@[simp] theorem waitAt_errIe (w : Wait) (s : State) : (waitAt w s).errIe = s.errIe := rfl
@[simp] theorem waitAt_seqState (w : Wait) (s : State) : (waitAt w s).seqState = s.seqState := rfl
@[simp] theorem waitAt_wait (w : Wait) (s : State) : (waitAt w s).wait = w := rfl
@[simp] theorem waitAt_plane (w : Wait) (s : State) : (waitAt w s).plane = s.plane := rfl
@[simp] theorem waitAt_expW (w : Wait) (s : State) : (waitAt w s).expW = s.expW := rfl
@[simp] theorem waitAt_expH (w : Wait) (s : State) : (waitAt w s).expH = s.expH := rfl
@[simp] theorem waitAt_resW (w : Wait) (s : State) : (waitAt w s).resW = s.resW := rfl
@[simp] theorem waitAt_resH (w : Wait) (s : State) : (waitAt w s).resH = s.resH := rfl
@[simp] theorem waitAt_devW (w : Wait) (s : State) : (waitAt w s).devW = s.devW := rfl
@[simp] theorem waitAt_devH (w : Wait) (s : State) : (waitAt w s).devH = s.devH := rfl
@[simp] theorem waitAt_tu (w : Wait) (s : State) : (waitAt w s).tu = s.tu := rfl
@[simp] theorem waitAt_linkmax (w : Wait) (s : State) : (waitAt w s).linkmax = s.linkmax := rfl
@[simp] theorem waitAt_interleave (w : Wait) (s : State) : (waitAt w s).interleave = s.interleave := rfl
@[simp] theorem waitAt_amp (w : Wait) (s : State) : (waitAt w s).amp = s.amp := rfl
@[simp] theorem waitAt_tNeg (w : Wait) (s : State) : (waitAt w s).tNeg = s.tNeg := rfl
@[simp] theorem waitAt_tClear (w : Wait) (s : State) : (waitAt w s).tClear = s.tClear := rfl
@[simp] theorem waitAt_tRefresh (w : Wait) (s : State) : (waitAt w s).tRefresh = s.tRefresh := rfl
@[simp] theorem waitAt_tPace (w : Wait) (s : State) : (waitAt w s).tPace = s.tPace := rfl
@[simp] theorem waitAt_epdcfg (w : Wait) (s : State) : (waitAt w s).epdcfg = s.epdcfg := rfl
@[simp] theorem waitAt_planeLen (w : Wait) (s : State) : (waitAt w s).planeLen = s.planeLen := rfl
@[simp] theorem waitAt_packedMode (w : Wait) (s : State) : (waitAt w s).packedMode = s.packedMode := rfl
@[simp] theorem waitAt_chunkIdx (w : Wait) (s : State) : (waitAt w s).chunkIdx = s.chunkIdx := rfl
@[simp] theorem waitAt_chunkCnt (w : Wait) (s : State) : (waitAt w s).chunkCnt = s.chunkCnt := rfl
@[simp] theorem waitAt_ilCnt (w : Wait) (s : State) : (waitAt w s).ilCnt = s.ilCnt := rfl
@[simp] theorem waitAt_notifCnt (w : Wait) (s : State) : (waitAt w s).notifCnt = s.notifCnt := rfl
@[simp] theorem waitAt_malfCnt (w : Wait) (s : State) : (waitAt w s).malfCnt = s.malfCnt := rfl
@[simp] theorem waitAt_ignCnt (w : Wait) (s : State) : (waitAt w s).ignCnt = s.ignCnt := rfl
@[simp] theorem waitAt_kdiv (w : Wait) (s : State) : (waitAt w s).kdiv = s.kdiv := rfl
@[simp] theorem waitAt_kanchor (w : Wait) (s : State) : (waitAt w s).kanchor = s.kanchor := rfl
@[simp] theorem waitAt_kpreset (w : Wait) (s : State) : (waitAt w s).kpreset = s.kpreset := rfl
@[simp] theorem waitAt_kw (w : Wait) (s : State) : (waitAt w s).kw = s.kw := rfl
@[simp] theorem waitAt_bayer (w : Wait) (s : State) : (waitAt w s).bayer = s.bayer := rfl
@[simp] theorem waitAt_pix (w : Wait) (s : State) : (waitAt w s).pix = s.pix := rfl
@[simp] theorem waitAt_planeMem (w : Wait) (s : State) : (waitAt w s).planeMem = s.planeMem := rfl
@[simp] theorem waitAt_timer (w : Wait) (s : State) : (waitAt w s).timer = s.timer := rfl
@[simp] theorem waitAt_curOp (w : Wait) (s : State) : (waitAt w s).curOp = s.curOp := rfl
@[simp] theorem waitAt_cs (w : Wait) (s : State) : (waitAt w s).cs = s.cs := rfl
@[simp] theorem waitAt_base (w : Wait) (s : State) : (waitAt w s).base = s.base := rfl
@[simp] theorem waitAt_sel (w : Wait) (s : State) : (waitAt w s).sel = s.sel := rfl
@[simp] theorem waitAt_nplanes (w : Wait) (s : State) : (waitAt w s).nplanes = s.nplanes := rfl
@[simp] theorem waitAt_inputs (w : Wait) (s : State) : (waitAt w s).inputs = s.inputs := rfl
@[simp] theorem waitAt_linkOut (w : Wait) (s : State) : (waitAt w s).linkOut = s.linkOut := rfl
@[simp] theorem waitAt_rdData (w : Wait) (s : State) : (waitAt w s).rdData = s.rdData := rfl
@[simp] theorem waitAt_framer (w : Wait) (s : State) : (waitAt w s).framer = s.framer := rfl
@[simp] theorem waitAt_freeIdx (w : Wait) (s : State) : (waitAt w s).freeIdx = s.freeIdx := rfl
@[simp] theorem waitAt_epoch (w : Wait) (s : State) : (waitAt w s).epoch = s.epoch := rfl

/-! ### accept -/

@[simp] theorem accept_cfg (op : CurOp) (s : State) : (accept op s).cfg = s.cfg := rfl
@[simp] theorem accept_mode (op : CurOp) (s : State) : (accept op s).mode = s.mode := rfl
@[simp] theorem accept_alg (op : CurOp) (s : State) : (accept op s).alg = s.alg := rfl
@[simp] theorem accept_clearEn (op : CurOp) (s : State) : (accept op s).clearEn = s.clearEn := rfl
@[simp] theorem accept_status (op : CurOp) (s : State) : (accept op s).status = { s.status with busy := true } := rfl
@[simp] theorem accept_errcode (op : CurOp) (s : State) : (accept op s).errcode = s.errcode := rfl
@[simp] theorem accept_doneIe (op : CurOp) (s : State) : (accept op s).doneIe = s.doneIe := rfl
@[simp] theorem accept_errIe (op : CurOp) (s : State) : (accept op s).errIe = s.errIe := rfl
@[simp] theorem accept_seqState (op : CurOp) (s : State) : (accept op s).seqState = s.seqState := rfl
@[simp] theorem accept_wait (op : CurOp) (s : State) : (accept op s).wait = s.wait := rfl
@[simp] theorem accept_plane (op : CurOp) (s : State) : (accept op s).plane = s.plane := rfl
@[simp] theorem accept_expW (op : CurOp) (s : State) : (accept op s).expW = s.expW := rfl
@[simp] theorem accept_expH (op : CurOp) (s : State) : (accept op s).expH = s.expH := rfl
@[simp] theorem accept_resW (op : CurOp) (s : State) : (accept op s).resW = s.resW := rfl
@[simp] theorem accept_resH (op : CurOp) (s : State) : (accept op s).resH = s.resH := rfl
@[simp] theorem accept_devW (op : CurOp) (s : State) : (accept op s).devW = s.devW := rfl
@[simp] theorem accept_devH (op : CurOp) (s : State) : (accept op s).devH = s.devH := rfl
@[simp] theorem accept_tu (op : CurOp) (s : State) : (accept op s).tu = s.tu := rfl
@[simp] theorem accept_linkmax (op : CurOp) (s : State) : (accept op s).linkmax = s.linkmax := rfl
@[simp] theorem accept_interleave (op : CurOp) (s : State) : (accept op s).interleave = s.interleave := rfl
@[simp] theorem accept_amp (op : CurOp) (s : State) : (accept op s).amp = s.amp := rfl
@[simp] theorem accept_tNeg (op : CurOp) (s : State) : (accept op s).tNeg = s.tNeg := rfl
@[simp] theorem accept_tClear (op : CurOp) (s : State) : (accept op s).tClear = s.tClear := rfl
@[simp] theorem accept_tRefresh (op : CurOp) (s : State) : (accept op s).tRefresh = s.tRefresh := rfl
@[simp] theorem accept_tPace (op : CurOp) (s : State) : (accept op s).tPace = s.tPace := rfl
@[simp] theorem accept_epdcfg (op : CurOp) (s : State) : (accept op s).epdcfg = s.epdcfg := rfl
@[simp] theorem accept_planeLen (op : CurOp) (s : State) : (accept op s).planeLen = s.planeLen := rfl
@[simp] theorem accept_packedMode (op : CurOp) (s : State) : (accept op s).packedMode = s.packedMode := rfl
@[simp] theorem accept_chunkIdx (op : CurOp) (s : State) : (accept op s).chunkIdx = s.chunkIdx := rfl
@[simp] theorem accept_chunkCnt (op : CurOp) (s : State) : (accept op s).chunkCnt = s.chunkCnt := rfl
@[simp] theorem accept_ilCnt (op : CurOp) (s : State) : (accept op s).ilCnt = s.ilCnt := rfl
@[simp] theorem accept_notifCnt (op : CurOp) (s : State) : (accept op s).notifCnt = s.notifCnt := rfl
@[simp] theorem accept_malfCnt (op : CurOp) (s : State) : (accept op s).malfCnt = s.malfCnt := rfl
@[simp] theorem accept_ignCnt (op : CurOp) (s : State) : (accept op s).ignCnt = s.ignCnt := rfl
@[simp] theorem accept_kdiv (op : CurOp) (s : State) : (accept op s).kdiv = s.kdiv := rfl
@[simp] theorem accept_kanchor (op : CurOp) (s : State) : (accept op s).kanchor = s.kanchor := rfl
@[simp] theorem accept_kpreset (op : CurOp) (s : State) : (accept op s).kpreset = s.kpreset := rfl
@[simp] theorem accept_kw (op : CurOp) (s : State) : (accept op s).kw = s.kw := rfl
@[simp] theorem accept_bayer (op : CurOp) (s : State) : (accept op s).bayer = s.bayer := rfl
@[simp] theorem accept_pix (op : CurOp) (s : State) : (accept op s).pix = s.pix := rfl
@[simp] theorem accept_planeMem (op : CurOp) (s : State) : (accept op s).planeMem = s.planeMem := rfl
@[simp] theorem accept_timer (op : CurOp) (s : State) : (accept op s).timer = s.timer := rfl
@[simp] theorem accept_curOp (op : CurOp) (s : State) : (accept op s).curOp = op := rfl
@[simp] theorem accept_cs (op : CurOp) (s : State) : (accept op s).cs = s.cs := rfl
@[simp] theorem accept_base (op : CurOp) (s : State) : (accept op s).base = s.base := rfl
@[simp] theorem accept_sel (op : CurOp) (s : State) : (accept op s).sel = s.sel := rfl
@[simp] theorem accept_nplanes (op : CurOp) (s : State) : (accept op s).nplanes = s.nplanes := rfl
@[simp] theorem accept_inputs (op : CurOp) (s : State) : (accept op s).inputs = s.inputs := rfl
@[simp] theorem accept_linkOut (op : CurOp) (s : State) : (accept op s).linkOut = s.linkOut := rfl
@[simp] theorem accept_rdData (op : CurOp) (s : State) : (accept op s).rdData = s.rdData := rfl
@[simp] theorem accept_framer (op : CurOp) (s : State) : (accept op s).framer = s.framer := rfl
@[simp] theorem accept_freeIdx (op : CurOp) (s : State) : (accept op s).freeIdx = s.freeIdx := rfl
@[simp] theorem accept_epoch (op : CurOp) (s : State) : (accept op s).epoch = s.epoch := rfl

/-! ### writeAccumulator -/

@[simp] theorem writeAccumulator_cfg (s : State) (i : Nat) (v : BitVec 32) : (writeAccumulator s i v).cfg = s.cfg := rfl
@[simp] theorem writeAccumulator_mode (s : State) (i : Nat) (v : BitVec 32) : (writeAccumulator s i v).mode = s.mode := rfl
@[simp] theorem writeAccumulator_alg (s : State) (i : Nat) (v : BitVec 32) : (writeAccumulator s i v).alg = s.alg := rfl
@[simp] theorem writeAccumulator_clearEn (s : State) (i : Nat) (v : BitVec 32) : (writeAccumulator s i v).clearEn = s.clearEn := rfl
@[simp] theorem writeAccumulator_status (s : State) (i : Nat) (v : BitVec 32) : (writeAccumulator s i v).status = s.status := rfl
@[simp] theorem writeAccumulator_errcode (s : State) (i : Nat) (v : BitVec 32) : (writeAccumulator s i v).errcode = s.errcode := rfl
@[simp] theorem writeAccumulator_doneIe (s : State) (i : Nat) (v : BitVec 32) : (writeAccumulator s i v).doneIe = s.doneIe := rfl
@[simp] theorem writeAccumulator_errIe (s : State) (i : Nat) (v : BitVec 32) : (writeAccumulator s i v).errIe = s.errIe := rfl
@[simp] theorem writeAccumulator_seqState (s : State) (i : Nat) (v : BitVec 32) : (writeAccumulator s i v).seqState = s.seqState := rfl
@[simp] theorem writeAccumulator_wait (s : State) (i : Nat) (v : BitVec 32) : (writeAccumulator s i v).wait = s.wait := rfl
@[simp] theorem writeAccumulator_plane (s : State) (i : Nat) (v : BitVec 32) : (writeAccumulator s i v).plane = s.plane := rfl
@[simp] theorem writeAccumulator_expW (s : State) (i : Nat) (v : BitVec 32) : (writeAccumulator s i v).expW = s.expW := rfl
@[simp] theorem writeAccumulator_expH (s : State) (i : Nat) (v : BitVec 32) : (writeAccumulator s i v).expH = s.expH := rfl
@[simp] theorem writeAccumulator_resW (s : State) (i : Nat) (v : BitVec 32) : (writeAccumulator s i v).resW = s.resW := rfl
@[simp] theorem writeAccumulator_resH (s : State) (i : Nat) (v : BitVec 32) : (writeAccumulator s i v).resH = s.resH := rfl
@[simp] theorem writeAccumulator_devW (s : State) (i : Nat) (v : BitVec 32) : (writeAccumulator s i v).devW = s.devW := rfl
@[simp] theorem writeAccumulator_devH (s : State) (i : Nat) (v : BitVec 32) : (writeAccumulator s i v).devH = s.devH := rfl
@[simp] theorem writeAccumulator_tu (s : State) (i : Nat) (v : BitVec 32) : (writeAccumulator s i v).tu = s.tu := rfl
@[simp] theorem writeAccumulator_linkmax (s : State) (i : Nat) (v : BitVec 32) : (writeAccumulator s i v).linkmax = s.linkmax := rfl
@[simp] theorem writeAccumulator_interleave (s : State) (i : Nat) (v : BitVec 32) : (writeAccumulator s i v).interleave = s.interleave := rfl
@[simp] theorem writeAccumulator_amp (s : State) (i : Nat) (v : BitVec 32) : (writeAccumulator s i v).amp = s.amp := rfl
@[simp] theorem writeAccumulator_tNeg (s : State) (i : Nat) (v : BitVec 32) : (writeAccumulator s i v).tNeg = s.tNeg := rfl
@[simp] theorem writeAccumulator_tClear (s : State) (i : Nat) (v : BitVec 32) : (writeAccumulator s i v).tClear = s.tClear := rfl
@[simp] theorem writeAccumulator_tRefresh (s : State) (i : Nat) (v : BitVec 32) : (writeAccumulator s i v).tRefresh = s.tRefresh := rfl
@[simp] theorem writeAccumulator_tPace (s : State) (i : Nat) (v : BitVec 32) : (writeAccumulator s i v).tPace = s.tPace := rfl
@[simp] theorem writeAccumulator_epdcfg (s : State) (i : Nat) (v : BitVec 32) : (writeAccumulator s i v).epdcfg = s.epdcfg := rfl
@[simp] theorem writeAccumulator_planeLen (s : State) (i : Nat) (v : BitVec 32) : (writeAccumulator s i v).planeLen = s.planeLen := rfl
@[simp] theorem writeAccumulator_packedMode (s : State) (i : Nat) (v : BitVec 32) : (writeAccumulator s i v).packedMode = s.packedMode := rfl
@[simp] theorem writeAccumulator_chunkIdx (s : State) (i : Nat) (v : BitVec 32) : (writeAccumulator s i v).chunkIdx = s.chunkIdx := rfl
@[simp] theorem writeAccumulator_chunkCnt (s : State) (i : Nat) (v : BitVec 32) : (writeAccumulator s i v).chunkCnt = s.chunkCnt := rfl
@[simp] theorem writeAccumulator_ilCnt (s : State) (i : Nat) (v : BitVec 32) : (writeAccumulator s i v).ilCnt = s.ilCnt := rfl
@[simp] theorem writeAccumulator_notifCnt (s : State) (i : Nat) (v : BitVec 32) : (writeAccumulator s i v).notifCnt = s.notifCnt := rfl
@[simp] theorem writeAccumulator_malfCnt (s : State) (i : Nat) (v : BitVec 32) : (writeAccumulator s i v).malfCnt = s.malfCnt := rfl
@[simp] theorem writeAccumulator_ignCnt (s : State) (i : Nat) (v : BitVec 32) : (writeAccumulator s i v).ignCnt = s.ignCnt := rfl
@[simp] theorem writeAccumulator_kdiv (s : State) (i : Nat) (v : BitVec 32) : (writeAccumulator s i v).kdiv = s.kdiv := rfl
@[simp] theorem writeAccumulator_kanchor (s : State) (i : Nat) (v : BitVec 32) : (writeAccumulator s i v).kanchor = s.kanchor := rfl
@[simp] theorem writeAccumulator_kpreset (s : State) (i : Nat) (v : BitVec 32) : (writeAccumulator s i v).kpreset = s.kpreset := rfl
@[simp] theorem writeAccumulator_kw (s : State) (i : Nat) (v : BitVec 32) : (writeAccumulator s i v).kw = s.kw := rfl
@[simp] theorem writeAccumulator_bayer (s : State) (i : Nat) (v : BitVec 32) : (writeAccumulator s i v).bayer = s.bayer := rfl
@[simp] theorem writeAccumulator_pix (s : State) (i : Nat) (v : BitVec 32) : (writeAccumulator s i v).pix = Memory.write s.pix i v := rfl
@[simp] theorem writeAccumulator_planeMem (s : State) (i : Nat) (v : BitVec 32) : (writeAccumulator s i v).planeMem = s.planeMem := rfl
@[simp] theorem writeAccumulator_timer (s : State) (i : Nat) (v : BitVec 32) : (writeAccumulator s i v).timer = s.timer := rfl
@[simp] theorem writeAccumulator_curOp (s : State) (i : Nat) (v : BitVec 32) : (writeAccumulator s i v).curOp = s.curOp := rfl
@[simp] theorem writeAccumulator_cs (s : State) (i : Nat) (v : BitVec 32) : (writeAccumulator s i v).cs = s.cs := rfl
@[simp] theorem writeAccumulator_base (s : State) (i : Nat) (v : BitVec 32) : (writeAccumulator s i v).base = s.base := rfl
@[simp] theorem writeAccumulator_sel (s : State) (i : Nat) (v : BitVec 32) : (writeAccumulator s i v).sel = s.sel := rfl
@[simp] theorem writeAccumulator_nplanes (s : State) (i : Nat) (v : BitVec 32) : (writeAccumulator s i v).nplanes = s.nplanes := rfl
@[simp] theorem writeAccumulator_inputs (s : State) (i : Nat) (v : BitVec 32) : (writeAccumulator s i v).inputs = s.inputs := rfl
@[simp] theorem writeAccumulator_linkOut (s : State) (i : Nat) (v : BitVec 32) : (writeAccumulator s i v).linkOut = s.linkOut := rfl
@[simp] theorem writeAccumulator_rdData (s : State) (i : Nat) (v : BitVec 32) : (writeAccumulator s i v).rdData = s.rdData := rfl
@[simp] theorem writeAccumulator_framer (s : State) (i : Nat) (v : BitVec 32) : (writeAccumulator s i v).framer = s.framer := rfl
@[simp] theorem writeAccumulator_freeIdx (s : State) (i : Nat) (v : BitVec 32) : (writeAccumulator s i v).freeIdx = s.freeIdx := rfl
@[simp] theorem writeAccumulator_epoch (s : State) (i : Nat) (v : BitVec 32) : (writeAccumulator s i v).epoch = s.epoch := rfl

/-! ### writePlaneByte -/

@[simp] theorem writePlaneByte_cfg (s : State) (j : Nat) (v : Byte) : (writePlaneByte s j v).cfg = s.cfg := rfl
@[simp] theorem writePlaneByte_mode (s : State) (j : Nat) (v : Byte) : (writePlaneByte s j v).mode = s.mode := rfl
@[simp] theorem writePlaneByte_alg (s : State) (j : Nat) (v : Byte) : (writePlaneByte s j v).alg = s.alg := rfl
@[simp] theorem writePlaneByte_clearEn (s : State) (j : Nat) (v : Byte) : (writePlaneByte s j v).clearEn = s.clearEn := rfl
@[simp] theorem writePlaneByte_status (s : State) (j : Nat) (v : Byte) : (writePlaneByte s j v).status = s.status := rfl
@[simp] theorem writePlaneByte_errcode (s : State) (j : Nat) (v : Byte) : (writePlaneByte s j v).errcode = s.errcode := rfl
@[simp] theorem writePlaneByte_doneIe (s : State) (j : Nat) (v : Byte) : (writePlaneByte s j v).doneIe = s.doneIe := rfl
@[simp] theorem writePlaneByte_errIe (s : State) (j : Nat) (v : Byte) : (writePlaneByte s j v).errIe = s.errIe := rfl
@[simp] theorem writePlaneByte_seqState (s : State) (j : Nat) (v : Byte) : (writePlaneByte s j v).seqState = s.seqState := rfl
@[simp] theorem writePlaneByte_wait (s : State) (j : Nat) (v : Byte) : (writePlaneByte s j v).wait = s.wait := rfl
@[simp] theorem writePlaneByte_plane (s : State) (j : Nat) (v : Byte) : (writePlaneByte s j v).plane = s.plane := rfl
@[simp] theorem writePlaneByte_expW (s : State) (j : Nat) (v : Byte) : (writePlaneByte s j v).expW = s.expW := rfl
@[simp] theorem writePlaneByte_expH (s : State) (j : Nat) (v : Byte) : (writePlaneByte s j v).expH = s.expH := rfl
@[simp] theorem writePlaneByte_resW (s : State) (j : Nat) (v : Byte) : (writePlaneByte s j v).resW = s.resW := rfl
@[simp] theorem writePlaneByte_resH (s : State) (j : Nat) (v : Byte) : (writePlaneByte s j v).resH = s.resH := rfl
@[simp] theorem writePlaneByte_devW (s : State) (j : Nat) (v : Byte) : (writePlaneByte s j v).devW = s.devW := rfl
@[simp] theorem writePlaneByte_devH (s : State) (j : Nat) (v : Byte) : (writePlaneByte s j v).devH = s.devH := rfl
@[simp] theorem writePlaneByte_tu (s : State) (j : Nat) (v : Byte) : (writePlaneByte s j v).tu = s.tu := rfl
@[simp] theorem writePlaneByte_linkmax (s : State) (j : Nat) (v : Byte) : (writePlaneByte s j v).linkmax = s.linkmax := rfl
@[simp] theorem writePlaneByte_interleave (s : State) (j : Nat) (v : Byte) : (writePlaneByte s j v).interleave = s.interleave := rfl
@[simp] theorem writePlaneByte_amp (s : State) (j : Nat) (v : Byte) : (writePlaneByte s j v).amp = s.amp := rfl
@[simp] theorem writePlaneByte_tNeg (s : State) (j : Nat) (v : Byte) : (writePlaneByte s j v).tNeg = s.tNeg := rfl
@[simp] theorem writePlaneByte_tClear (s : State) (j : Nat) (v : Byte) : (writePlaneByte s j v).tClear = s.tClear := rfl
@[simp] theorem writePlaneByte_tRefresh (s : State) (j : Nat) (v : Byte) : (writePlaneByte s j v).tRefresh = s.tRefresh := rfl
@[simp] theorem writePlaneByte_tPace (s : State) (j : Nat) (v : Byte) : (writePlaneByte s j v).tPace = s.tPace := rfl
@[simp] theorem writePlaneByte_epdcfg (s : State) (j : Nat) (v : Byte) : (writePlaneByte s j v).epdcfg = s.epdcfg := rfl
@[simp] theorem writePlaneByte_planeLen (s : State) (j : Nat) (v : Byte) : (writePlaneByte s j v).planeLen = s.planeLen := rfl
@[simp] theorem writePlaneByte_packedMode (s : State) (j : Nat) (v : Byte) : (writePlaneByte s j v).packedMode = s.packedMode := rfl
@[simp] theorem writePlaneByte_chunkIdx (s : State) (j : Nat) (v : Byte) : (writePlaneByte s j v).chunkIdx = s.chunkIdx := rfl
@[simp] theorem writePlaneByte_chunkCnt (s : State) (j : Nat) (v : Byte) : (writePlaneByte s j v).chunkCnt = s.chunkCnt := rfl
@[simp] theorem writePlaneByte_ilCnt (s : State) (j : Nat) (v : Byte) : (writePlaneByte s j v).ilCnt = s.ilCnt := rfl
@[simp] theorem writePlaneByte_notifCnt (s : State) (j : Nat) (v : Byte) : (writePlaneByte s j v).notifCnt = s.notifCnt := rfl
@[simp] theorem writePlaneByte_malfCnt (s : State) (j : Nat) (v : Byte) : (writePlaneByte s j v).malfCnt = s.malfCnt := rfl
@[simp] theorem writePlaneByte_ignCnt (s : State) (j : Nat) (v : Byte) : (writePlaneByte s j v).ignCnt = s.ignCnt := rfl
@[simp] theorem writePlaneByte_kdiv (s : State) (j : Nat) (v : Byte) : (writePlaneByte s j v).kdiv = s.kdiv := rfl
@[simp] theorem writePlaneByte_kanchor (s : State) (j : Nat) (v : Byte) : (writePlaneByte s j v).kanchor = s.kanchor := rfl
@[simp] theorem writePlaneByte_kpreset (s : State) (j : Nat) (v : Byte) : (writePlaneByte s j v).kpreset = s.kpreset := rfl
@[simp] theorem writePlaneByte_kw (s : State) (j : Nat) (v : Byte) : (writePlaneByte s j v).kw = s.kw := rfl
@[simp] theorem writePlaneByte_bayer (s : State) (j : Nat) (v : Byte) : (writePlaneByte s j v).bayer = s.bayer := rfl
@[simp] theorem writePlaneByte_pix (s : State) (j : Nat) (v : Byte) : (writePlaneByte s j v).pix = s.pix := rfl
@[simp] theorem writePlaneByte_planeMem (s : State) (j : Nat) (v : Byte) : (writePlaneByte s j v).planeMem = Memory.write s.planeMem j v := rfl
@[simp] theorem writePlaneByte_timer (s : State) (j : Nat) (v : Byte) : (writePlaneByte s j v).timer = s.timer := rfl
@[simp] theorem writePlaneByte_curOp (s : State) (j : Nat) (v : Byte) : (writePlaneByte s j v).curOp = s.curOp := rfl
@[simp] theorem writePlaneByte_cs (s : State) (j : Nat) (v : Byte) : (writePlaneByte s j v).cs = s.cs := rfl
@[simp] theorem writePlaneByte_base (s : State) (j : Nat) (v : Byte) : (writePlaneByte s j v).base = s.base := rfl
@[simp] theorem writePlaneByte_sel (s : State) (j : Nat) (v : Byte) : (writePlaneByte s j v).sel = s.sel := rfl
@[simp] theorem writePlaneByte_nplanes (s : State) (j : Nat) (v : Byte) : (writePlaneByte s j v).nplanes = s.nplanes := rfl
@[simp] theorem writePlaneByte_inputs (s : State) (j : Nat) (v : Byte) : (writePlaneByte s j v).inputs = s.inputs := rfl
@[simp] theorem writePlaneByte_linkOut (s : State) (j : Nat) (v : Byte) : (writePlaneByte s j v).linkOut = s.linkOut := rfl
@[simp] theorem writePlaneByte_rdData (s : State) (j : Nat) (v : Byte) : (writePlaneByte s j v).rdData = s.rdData := rfl
@[simp] theorem writePlaneByte_framer (s : State) (j : Nat) (v : Byte) : (writePlaneByte s j v).framer = s.framer := rfl
@[simp] theorem writePlaneByte_freeIdx (s : State) (j : Nat) (v : Byte) : (writePlaneByte s j v).freeIdx = s.freeIdx := rfl
@[simp] theorem writePlaneByte_epoch (s : State) (j : Nat) (v : Byte) : (writePlaneByte s j v).epoch = s.epoch := rfl

/-! ### startTeardown -/

@[simp] theorem startTeardown_cfg (s : State) : (startTeardown s).cfg = s.cfg := rfl
@[simp] theorem startTeardown_mode (s : State) : (startTeardown s).mode = s.mode := rfl
@[simp] theorem startTeardown_alg (s : State) : (startTeardown s).alg = s.alg := rfl
@[simp] theorem startTeardown_clearEn (s : State) : (startTeardown s).clearEn = s.clearEn := rfl
@[simp] theorem startTeardown_status (s : State) : (startTeardown s).status = { s.status with subscribed := false } := rfl
@[simp] theorem startTeardown_errcode (s : State) : (startTeardown s).errcode = s.errcode := rfl
@[simp] theorem startTeardown_doneIe (s : State) : (startTeardown s).doneIe = s.doneIe := rfl
@[simp] theorem startTeardown_errIe (s : State) : (startTeardown s).errIe = s.errIe := rfl
@[simp] theorem startTeardown_seqState (s : State) : (startTeardown s).seqState = .teardown := rfl
@[simp] theorem startTeardown_wait (s : State) : (startTeardown s).wait = .unsubscribe := rfl
@[simp] theorem startTeardown_plane (s : State) : (startTeardown s).plane = s.plane := rfl
@[simp] theorem startTeardown_expW (s : State) : (startTeardown s).expW = s.expW := rfl
@[simp] theorem startTeardown_expH (s : State) : (startTeardown s).expH = s.expH := rfl
@[simp] theorem startTeardown_resW (s : State) : (startTeardown s).resW = s.resW := rfl
@[simp] theorem startTeardown_resH (s : State) : (startTeardown s).resH = s.resH := rfl
@[simp] theorem startTeardown_devW (s : State) : (startTeardown s).devW = s.devW := rfl
@[simp] theorem startTeardown_devH (s : State) : (startTeardown s).devH = s.devH := rfl
@[simp] theorem startTeardown_tu (s : State) : (startTeardown s).tu = s.tu := rfl
@[simp] theorem startTeardown_linkmax (s : State) : (startTeardown s).linkmax = s.linkmax := rfl
@[simp] theorem startTeardown_interleave (s : State) : (startTeardown s).interleave = s.interleave := rfl
@[simp] theorem startTeardown_amp (s : State) : (startTeardown s).amp = s.amp := rfl
@[simp] theorem startTeardown_tNeg (s : State) : (startTeardown s).tNeg = s.tNeg := rfl
@[simp] theorem startTeardown_tClear (s : State) : (startTeardown s).tClear = s.tClear := rfl
@[simp] theorem startTeardown_tRefresh (s : State) : (startTeardown s).tRefresh = s.tRefresh := rfl
@[simp] theorem startTeardown_tPace (s : State) : (startTeardown s).tPace = s.tPace := rfl
@[simp] theorem startTeardown_epdcfg (s : State) : (startTeardown s).epdcfg = s.epdcfg := rfl
@[simp] theorem startTeardown_planeLen (s : State) : (startTeardown s).planeLen = s.planeLen := rfl
@[simp] theorem startTeardown_packedMode (s : State) : (startTeardown s).packedMode = s.packedMode := rfl
@[simp] theorem startTeardown_chunkIdx (s : State) : (startTeardown s).chunkIdx = s.chunkIdx := rfl
@[simp] theorem startTeardown_chunkCnt (s : State) : (startTeardown s).chunkCnt = s.chunkCnt := rfl
@[simp] theorem startTeardown_ilCnt (s : State) : (startTeardown s).ilCnt = s.ilCnt := rfl
@[simp] theorem startTeardown_notifCnt (s : State) : (startTeardown s).notifCnt = s.notifCnt := rfl
@[simp] theorem startTeardown_malfCnt (s : State) : (startTeardown s).malfCnt = s.malfCnt := rfl
@[simp] theorem startTeardown_ignCnt (s : State) : (startTeardown s).ignCnt = s.ignCnt := rfl
@[simp] theorem startTeardown_kdiv (s : State) : (startTeardown s).kdiv = s.kdiv := rfl
@[simp] theorem startTeardown_kanchor (s : State) : (startTeardown s).kanchor = s.kanchor := rfl
@[simp] theorem startTeardown_kpreset (s : State) : (startTeardown s).kpreset = s.kpreset := rfl
@[simp] theorem startTeardown_kw (s : State) : (startTeardown s).kw = s.kw := rfl
@[simp] theorem startTeardown_bayer (s : State) : (startTeardown s).bayer = s.bayer := rfl
@[simp] theorem startTeardown_pix (s : State) : (startTeardown s).pix = s.pix := rfl
@[simp] theorem startTeardown_planeMem (s : State) : (startTeardown s).planeMem = s.planeMem := rfl
@[simp] theorem startTeardown_timer (s : State) : (startTeardown s).timer = s.timer := rfl
@[simp] theorem startTeardown_curOp (s : State) : (startTeardown s).curOp = s.curOp := rfl
@[simp] theorem startTeardown_cs (s : State) : (startTeardown s).cs = s.cs := rfl
@[simp] theorem startTeardown_base (s : State) : (startTeardown s).base = s.base := rfl
@[simp] theorem startTeardown_sel (s : State) : (startTeardown s).sel = s.sel := rfl
@[simp] theorem startTeardown_nplanes (s : State) : (startTeardown s).nplanes = s.nplanes := rfl
@[simp] theorem startTeardown_inputs (s : State) : (startTeardown s).inputs = s.inputs := rfl
@[simp] theorem startTeardown_linkOut (s : State) : (startTeardown s).linkOut = s.linkOut ++ [.unsubscribe] := rfl
@[simp] theorem startTeardown_rdData (s : State) : (startTeardown s).rdData = s.rdData := rfl
@[simp] theorem startTeardown_framer (s : State) : (startTeardown s).framer = s.framer := rfl
@[simp] theorem startTeardown_freeIdx (s : State) : (startTeardown s).freeIdx = s.freeIdx := rfl
@[simp] theorem startTeardown_epoch (s : State) : (startTeardown s).epoch = s.epoch := rfl

/-! ### complete -/

@[simp] theorem complete_cfg (s : State) : (complete s).cfg = s.cfg := by
  unfold complete; split <;> rfl
@[simp] theorem complete_mode (s : State) : (complete s).mode = s.mode := by
  unfold complete; split <;> rfl
@[simp] theorem complete_alg (s : State) : (complete s).alg = s.alg := by
  unfold complete; split <;> rfl
@[simp] theorem complete_clearEn (s : State) : (complete s).clearEn = s.clearEn := by
  unfold complete; split <;> rfl
@[simp] theorem complete_status (s : State) : (complete s).status = if s.errcode = .none then { s.status with busy := false, done := true } else { s.status with busy := false, err := true } := by
  unfold complete; split <;> rfl
@[simp] theorem complete_errcode (s : State) : (complete s).errcode = s.errcode := by
  unfold complete; split <;> rfl
@[simp] theorem complete_doneIe (s : State) : (complete s).doneIe = s.doneIe := by
  unfold complete; split <;> rfl
@[simp] theorem complete_errIe (s : State) : (complete s).errIe = s.errIe := by
  unfold complete; split <;> rfl
@[simp] theorem complete_seqState (s : State) : (complete s).seqState = s.seqState := by
  unfold complete; split <;> rfl
@[simp] theorem complete_wait (s : State) : (complete s).wait = .idle := by
  unfold complete; split <;> rfl
@[simp] theorem complete_plane (s : State) : (complete s).plane = s.plane := by
  unfold complete; split <;> rfl
@[simp] theorem complete_expW (s : State) : (complete s).expW = s.expW := by
  unfold complete; split <;> rfl
@[simp] theorem complete_expH (s : State) : (complete s).expH = s.expH := by
  unfold complete; split <;> rfl
@[simp] theorem complete_resW (s : State) : (complete s).resW = s.resW := by
  unfold complete; split <;> rfl
@[simp] theorem complete_resH (s : State) : (complete s).resH = s.resH := by
  unfold complete; split <;> rfl
@[simp] theorem complete_devW (s : State) : (complete s).devW = s.devW := by
  unfold complete; split <;> rfl
@[simp] theorem complete_devH (s : State) : (complete s).devH = s.devH := by
  unfold complete; split <;> rfl
@[simp] theorem complete_tu (s : State) : (complete s).tu = s.tu := by
  unfold complete; split <;> rfl
@[simp] theorem complete_linkmax (s : State) : (complete s).linkmax = s.linkmax := by
  unfold complete; split <;> rfl
@[simp] theorem complete_interleave (s : State) : (complete s).interleave = s.interleave := by
  unfold complete; split <;> rfl
@[simp] theorem complete_amp (s : State) : (complete s).amp = s.amp := by
  unfold complete; split <;> rfl
@[simp] theorem complete_tNeg (s : State) : (complete s).tNeg = s.tNeg := by
  unfold complete; split <;> rfl
@[simp] theorem complete_tClear (s : State) : (complete s).tClear = s.tClear := by
  unfold complete; split <;> rfl
@[simp] theorem complete_tRefresh (s : State) : (complete s).tRefresh = s.tRefresh := by
  unfold complete; split <;> rfl
@[simp] theorem complete_tPace (s : State) : (complete s).tPace = s.tPace := by
  unfold complete; split <;> rfl
@[simp] theorem complete_epdcfg (s : State) : (complete s).epdcfg = s.epdcfg := by
  unfold complete; split <;> rfl
@[simp] theorem complete_planeLen (s : State) : (complete s).planeLen = s.planeLen := by
  unfold complete; split <;> rfl
@[simp] theorem complete_packedMode (s : State) : (complete s).packedMode = s.packedMode := by
  unfold complete; split <;> rfl
@[simp] theorem complete_chunkIdx (s : State) : (complete s).chunkIdx = s.chunkIdx := by
  unfold complete; split <;> rfl
@[simp] theorem complete_chunkCnt (s : State) : (complete s).chunkCnt = s.chunkCnt := by
  unfold complete; split <;> rfl
@[simp] theorem complete_ilCnt (s : State) : (complete s).ilCnt = s.ilCnt := by
  unfold complete; split <;> rfl
@[simp] theorem complete_notifCnt (s : State) : (complete s).notifCnt = s.notifCnt := by
  unfold complete; split <;> rfl
@[simp] theorem complete_malfCnt (s : State) : (complete s).malfCnt = s.malfCnt := by
  unfold complete; split <;> rfl
@[simp] theorem complete_ignCnt (s : State) : (complete s).ignCnt = s.ignCnt := by
  unfold complete; split <;> rfl
@[simp] theorem complete_kdiv (s : State) : (complete s).kdiv = s.kdiv := by
  unfold complete; split <;> rfl
@[simp] theorem complete_kanchor (s : State) : (complete s).kanchor = s.kanchor := by
  unfold complete; split <;> rfl
@[simp] theorem complete_kpreset (s : State) : (complete s).kpreset = s.kpreset := by
  unfold complete; split <;> rfl
@[simp] theorem complete_kw (s : State) : (complete s).kw = s.kw := by
  unfold complete; split <;> rfl
@[simp] theorem complete_bayer (s : State) : (complete s).bayer = s.bayer := by
  unfold complete; split <;> rfl
@[simp] theorem complete_pix (s : State) : (complete s).pix = s.pix := by
  unfold complete; split <;> rfl
@[simp] theorem complete_planeMem (s : State) : (complete s).planeMem = s.planeMem := by
  unfold complete; split <;> rfl
@[simp] theorem complete_timer (s : State) : (complete s).timer = s.timer := by
  unfold complete; split <;> rfl
@[simp] theorem complete_curOp (s : State) : (complete s).curOp = .none := by
  unfold complete; split <;> rfl
@[simp] theorem complete_cs (s : State) : (complete s).cs = s.cs := by
  unfold complete; split <;> rfl
@[simp] theorem complete_base (s : State) : (complete s).base = s.base := by
  unfold complete; split <;> rfl
@[simp] theorem complete_sel (s : State) : (complete s).sel = s.sel := by
  unfold complete; split <;> rfl
@[simp] theorem complete_nplanes (s : State) : (complete s).nplanes = s.nplanes := by
  unfold complete; split <;> rfl
@[simp] theorem complete_inputs (s : State) : (complete s).inputs = s.inputs := by
  unfold complete; split <;> rfl
@[simp] theorem complete_linkOut (s : State) : (complete s).linkOut = s.linkOut := by
  unfold complete; split <;> rfl
@[simp] theorem complete_rdData (s : State) : (complete s).rdData = s.rdData := by
  unfold complete; split <;> rfl
@[simp] theorem complete_framer (s : State) : (complete s).framer = s.framer := by
  unfold complete; split <;> rfl
@[simp] theorem complete_freeIdx (s : State) : (complete s).freeIdx = s.freeIdx := by
  unfold complete; split <;> rfl
@[simp] theorem complete_epoch (s : State) : (complete s).epoch = s.epoch := by
  unfold complete; split <;> rfl

/-! ### recordError -/

@[simp] theorem recordError_cfg (code : ErrCode) (s : State) : (recordError code s).cfg = s.cfg := by
  unfold recordError; split <;> simp_all
@[simp] theorem recordError_mode (code : ErrCode) (s : State) : (recordError code s).mode = s.mode := by
  unfold recordError; split <;> simp_all
@[simp] theorem recordError_alg (code : ErrCode) (s : State) : (recordError code s).alg = s.alg := by
  unfold recordError; split <;> simp_all
@[simp] theorem recordError_clearEn (code : ErrCode) (s : State) : (recordError code s).clearEn = s.clearEn := by
  unfold recordError; split <;> simp_all
@[simp] theorem recordError_status (code : ErrCode) (s : State) : (recordError code s).status = s.status := by
  unfold recordError; split <;> simp_all
@[simp] theorem recordError_errcode (code : ErrCode) (s : State) : (recordError code s).errcode = if s.errcode = .none then code else s.errcode := by
  unfold recordError; split <;> simp_all
@[simp] theorem recordError_doneIe (code : ErrCode) (s : State) : (recordError code s).doneIe = s.doneIe := by
  unfold recordError; split <;> simp_all
@[simp] theorem recordError_errIe (code : ErrCode) (s : State) : (recordError code s).errIe = s.errIe := by
  unfold recordError; split <;> simp_all
@[simp] theorem recordError_seqState (code : ErrCode) (s : State) : (recordError code s).seqState = s.seqState := by
  unfold recordError; split <;> simp_all
@[simp] theorem recordError_wait (code : ErrCode) (s : State) : (recordError code s).wait = s.wait := by
  unfold recordError; split <;> simp_all
@[simp] theorem recordError_plane (code : ErrCode) (s : State) : (recordError code s).plane = s.plane := by
  unfold recordError; split <;> simp_all
@[simp] theorem recordError_expW (code : ErrCode) (s : State) : (recordError code s).expW = s.expW := by
  unfold recordError; split <;> simp_all
@[simp] theorem recordError_expH (code : ErrCode) (s : State) : (recordError code s).expH = s.expH := by
  unfold recordError; split <;> simp_all
@[simp] theorem recordError_resW (code : ErrCode) (s : State) : (recordError code s).resW = s.resW := by
  unfold recordError; split <;> simp_all
@[simp] theorem recordError_resH (code : ErrCode) (s : State) : (recordError code s).resH = s.resH := by
  unfold recordError; split <;> simp_all
@[simp] theorem recordError_devW (code : ErrCode) (s : State) : (recordError code s).devW = s.devW := by
  unfold recordError; split <;> simp_all
@[simp] theorem recordError_devH (code : ErrCode) (s : State) : (recordError code s).devH = s.devH := by
  unfold recordError; split <;> simp_all
@[simp] theorem recordError_tu (code : ErrCode) (s : State) : (recordError code s).tu = s.tu := by
  unfold recordError; split <;> simp_all
@[simp] theorem recordError_linkmax (code : ErrCode) (s : State) : (recordError code s).linkmax = s.linkmax := by
  unfold recordError; split <;> simp_all
@[simp] theorem recordError_interleave (code : ErrCode) (s : State) : (recordError code s).interleave = s.interleave := by
  unfold recordError; split <;> simp_all
@[simp] theorem recordError_amp (code : ErrCode) (s : State) : (recordError code s).amp = s.amp := by
  unfold recordError; split <;> simp_all
@[simp] theorem recordError_tNeg (code : ErrCode) (s : State) : (recordError code s).tNeg = s.tNeg := by
  unfold recordError; split <;> simp_all
@[simp] theorem recordError_tClear (code : ErrCode) (s : State) : (recordError code s).tClear = s.tClear := by
  unfold recordError; split <;> simp_all
@[simp] theorem recordError_tRefresh (code : ErrCode) (s : State) : (recordError code s).tRefresh = s.tRefresh := by
  unfold recordError; split <;> simp_all
@[simp] theorem recordError_tPace (code : ErrCode) (s : State) : (recordError code s).tPace = s.tPace := by
  unfold recordError; split <;> simp_all
@[simp] theorem recordError_epdcfg (code : ErrCode) (s : State) : (recordError code s).epdcfg = s.epdcfg := by
  unfold recordError; split <;> simp_all
@[simp] theorem recordError_planeLen (code : ErrCode) (s : State) : (recordError code s).planeLen = s.planeLen := by
  unfold recordError; split <;> simp_all
@[simp] theorem recordError_packedMode (code : ErrCode) (s : State) : (recordError code s).packedMode = s.packedMode := by
  unfold recordError; split <;> simp_all
@[simp] theorem recordError_chunkIdx (code : ErrCode) (s : State) : (recordError code s).chunkIdx = s.chunkIdx := by
  unfold recordError; split <;> simp_all
@[simp] theorem recordError_chunkCnt (code : ErrCode) (s : State) : (recordError code s).chunkCnt = s.chunkCnt := by
  unfold recordError; split <;> simp_all
@[simp] theorem recordError_ilCnt (code : ErrCode) (s : State) : (recordError code s).ilCnt = s.ilCnt := by
  unfold recordError; split <;> simp_all
@[simp] theorem recordError_notifCnt (code : ErrCode) (s : State) : (recordError code s).notifCnt = s.notifCnt := by
  unfold recordError; split <;> simp_all
@[simp] theorem recordError_malfCnt (code : ErrCode) (s : State) : (recordError code s).malfCnt = s.malfCnt := by
  unfold recordError; split <;> simp_all
@[simp] theorem recordError_ignCnt (code : ErrCode) (s : State) : (recordError code s).ignCnt = s.ignCnt := by
  unfold recordError; split <;> simp_all
@[simp] theorem recordError_kdiv (code : ErrCode) (s : State) : (recordError code s).kdiv = s.kdiv := by
  unfold recordError; split <;> simp_all
@[simp] theorem recordError_kanchor (code : ErrCode) (s : State) : (recordError code s).kanchor = s.kanchor := by
  unfold recordError; split <;> simp_all
@[simp] theorem recordError_kpreset (code : ErrCode) (s : State) : (recordError code s).kpreset = s.kpreset := by
  unfold recordError; split <;> simp_all
@[simp] theorem recordError_kw (code : ErrCode) (s : State) : (recordError code s).kw = s.kw := by
  unfold recordError; split <;> simp_all
@[simp] theorem recordError_bayer (code : ErrCode) (s : State) : (recordError code s).bayer = s.bayer := by
  unfold recordError; split <;> simp_all
@[simp] theorem recordError_pix (code : ErrCode) (s : State) : (recordError code s).pix = s.pix := by
  unfold recordError; split <;> simp_all
@[simp] theorem recordError_planeMem (code : ErrCode) (s : State) : (recordError code s).planeMem = s.planeMem := by
  unfold recordError; split <;> simp_all
@[simp] theorem recordError_timer (code : ErrCode) (s : State) : (recordError code s).timer = s.timer := by
  unfold recordError; split <;> simp_all
@[simp] theorem recordError_curOp (code : ErrCode) (s : State) : (recordError code s).curOp = s.curOp := by
  unfold recordError; split <;> simp_all
@[simp] theorem recordError_cs (code : ErrCode) (s : State) : (recordError code s).cs = s.cs := by
  unfold recordError; split <;> simp_all
@[simp] theorem recordError_base (code : ErrCode) (s : State) : (recordError code s).base = s.base := by
  unfold recordError; split <;> simp_all
@[simp] theorem recordError_sel (code : ErrCode) (s : State) : (recordError code s).sel = s.sel := by
  unfold recordError; split <;> simp_all
@[simp] theorem recordError_nplanes (code : ErrCode) (s : State) : (recordError code s).nplanes = s.nplanes := by
  unfold recordError; split <;> simp_all
@[simp] theorem recordError_inputs (code : ErrCode) (s : State) : (recordError code s).inputs = s.inputs := by
  unfold recordError; split <;> simp_all
@[simp] theorem recordError_linkOut (code : ErrCode) (s : State) : (recordError code s).linkOut = s.linkOut := by
  unfold recordError; split <;> simp_all
@[simp] theorem recordError_rdData (code : ErrCode) (s : State) : (recordError code s).rdData = s.rdData := by
  unfold recordError; split <;> simp_all
@[simp] theorem recordError_framer (code : ErrCode) (s : State) : (recordError code s).framer = s.framer := by
  unfold recordError; split <;> simp_all
@[simp] theorem recordError_freeIdx (code : ErrCode) (s : State) : (recordError code s).freeIdx = s.freeIdx := by
  unfold recordError; split <;> simp_all
@[simp] theorem recordError_epoch (code : ErrCode) (s : State) : (recordError code s).epoch = s.epoch := by
  unfold recordError; split <;> simp_all

end Sys2Proof.Machine
end

