-- ==== Sys2Proof/Laws/Ops.lean ====
section
/-! SUPPORT. One lemma for each shared operation, saying what it can do; later proofs cite these and do not unfold the
operation. -/

namespace Sys2Proof.Machine

/-! ### Errors (60_exceptions.md R236) -/

/-- A local error records its code and completes the command. -/
theorem raiseError_local (code : ErrCode) (s : State) (h : errClass code = .localError) :
    raiseError code s = complete (recordError code s) := by
  simp [raiseError, h]

/-- A session error records its code and starts teardown. -/
theorem raiseError_session (code : ErrCode) (s : State) (h : errClass code = .sessionError) :
    raiseError code s = startTeardown (recordError code s) := by
  simp [raiseError, h]

/-- A teardown error is only recorded. -/
theorem raiseError_linkTeardown (s : State) : raiseError .linkTeardown s = recordError .linkTeardown s := rfl

/-! ### The dispatcher (40_command.md R120, R121) -/

/-- What a command starts from when it is presented to an idle unit. -/
def cleared (s : State) : State :=
  { s with status := { s.status with done := false, err := false }, errcode := .none }

theorem present_busy (command : State → State) (s : State) (h : s.status.busy = true) :
    present command s = { s with status := { s.status with cmdOvr := true } } := by
  simp [present, h]

theorem present_idle (command : State → State) (s : State) (h : s.status.busy = false) :
    present command s = command (cleared s) := by
  simp [present, h, cleared]

/-! ### The timer (60_exceptions.md R245) -/

theorem startTimer_cases (delay : Half) (w : Wait) (goOn : State → State) (s : State) :
    (delay = 0 ∧ startTimer delay w goOn s = goOn { s with timer := delay }) ∨
    (delay ≠ 0 ∧ startTimer delay w goOn s = { s with timer := delay, wait := w }) := by
  unfold startTimer
  split
  · exact .inl ⟨‹_›, rfl⟩
  · exact .inr ⟨‹_›, rfl⟩

theorem countTick_cases (goOn : State → State) (s : State) :
    (s.timer - 1 = 0 ∧ countTick goOn s = goOn { s with timer := s.timer - 1 }) ∨
    (s.timer - 1 ≠ 0 ∧ countTick goOn s = { s with timer := s.timer - 1 }) := by
  unfold countTick
  split
  · exact .inl ⟨‹_›, rfl⟩
  · exact .inr ⟨‹_›, rfl⟩

/-! ### The chunk loop (44_transfer.md R204) -/

/-- The state after `m` turns of the chunk loop that sent `reqs`. -/
def afterChunks (s : State) (m : Nat) (reqs : List LinkReq) : State :=
  { s with
    ilCnt    := s.ilCnt - BitVec.ofNat 16 m
    chunkIdx := s.chunkIdx + BitVec.ofNat 24 m
    linkOut  := s.linkOut ++ reqs
    wait     := .chunkAck }

/-- With `n` chunks left, `n` at least 1, the loop sends a run of fire-and-forget chunks and one acknowledged chunk, and
waits for its response; it changes only the counters and the wait point. -/
theorem sendLoop_spec (n : Nat) : ∀ s : State, s.chunkCnt.toNat = s.chunkIdx.toNat + n → 1 ≤ n →
    ∃ m unacked last, 1 ≤ m ∧ m ≤ n ∧
      sendLoop n s = afterChunks s m (unacked ++ [.write last true]) ∧
      unacked.length + 1 = m ∧
      (∀ r ∈ unacked, ∃ rest, r = .write (s.cfg.opWriteImg :: rest) false) ∧
      last.head? = some s.cfg.opWriteImg ∧
      (m = n ∨ s.ilCnt - BitVec.ofNat 16 m = 0) := by
  induction n with
  | zero => intro s _ h; omega
  | succ n ih =>
    intro s hcnt _
    by_cases ha : nextChunkAcked s = true
    · refine ⟨1, [], frameBytes s.cfg.opWriteImg (nextHeader s :: nextChunk s), le_refl _, by omega, ?_, rfl, by simp,
        by simp [frameBytes], ?_⟩
      · simp [sendLoop, ha, sendNextChunk, issueChunk, afterChunks]
      · simp only [nextChunkAcked, Bool.or_eq_true, decide_eq_true_eq] at ha
        rcases ha with ha | ha
        · exact .inr ha
        · exact .inl (by omega)
    · have ha' : nextChunkAcked s = false := by simpa using ha
      have hn : 1 ≤ n := by
        simp only [nextChunkAcked, Bool.or_eq_false_iff, decide_eq_false_iff_not] at ha'
        omega
      have hidx : (s.chunkIdx + 1).toNat = s.chunkIdx.toNat + 1 := by
        have := s.chunkCnt.isLt
        rw [BitVec.toNat_add, Nat.mod_eq_of_lt] <;> simp <;> omega
      obtain ⟨m, unacked, last, h1, h2, h3, h4, h5, h6, h7⟩ :=
        ih (sendNextChunk s) (by simp only [sendNextChunk, issueChunk]; omega) hn
      refine ⟨m + 1, .write (frameBytes s.cfg.opWriteImg (nextHeader s :: nextChunk s)) false :: unacked, last,
        by omega, by omega, ?_, by simpa using h4, ?_, h6, ?_⟩
      · simp only [sendLoop, ha', Bool.false_eq_true, if_false, h3, afterChunks]
        simp only [sendNextChunk, issueChunk, ha', List.append_assoc, List.cons_append, List.nil_append]
        congr 1
        · simp only [BitVec.ofNat_add, BitVec.add_assoc]; rw [BitVec.add_comm 1]; rfl
        · simp only [BitVec.ofNat_add]
          apply BitVec.eq_of_toNat_eq
          simp [BitVec.toNat_sub]
          omega
      · intro r hr
        rcases List.mem_cons.1 hr with rfl | hr
        · exact ⟨_, rfl⟩
        · exact h5 r hr
      · rcases h7 with h7 | h7
        · exact .inl (by omega)
        · right
          rw [← h7]
          simp only [sendNextChunk, issueChunk, BitVec.ofNat_add]
          apply BitVec.eq_of_toNat_eq
          simp [BitVec.toNat_sub]
          omega

/-- `sendChunks` with a chunk left (44_transfer.md R204). -/
theorem sendChunks_spec (s : State) (h : s.chunkIdx.toNat < s.chunkCnt.toNat) :
    ∃ m unacked last, 1 ≤ m ∧ m ≤ s.chunkCnt.toNat - s.chunkIdx.toNat ∧
      sendChunks s = afterChunks s m (unacked ++ [.write last true]) ∧
      unacked.length + 1 = m ∧
      (∀ r ∈ unacked, ∃ rest, r = .write (s.cfg.opWriteImg :: rest) false) ∧
      last.head? = some s.cfg.opWriteImg ∧
      (m = s.chunkCnt.toNat - s.chunkIdx.toNat ∨ s.ilCnt - BitVec.ofNat 16 m = 0) :=
  sendLoop_spec _ s (by omega) (by omega)

end Sys2Proof.Machine
end

