-- ==== Sys2Proof/Laws/Chunks.lean ====
section
/-! SUPPORT. The closed form of the chunk loop (44_transfer.md R204): which chunks one run of it sends. -/

namespace Sys2Proof.Machine

/-- The request that carries chunk `i` of the plane whose registers are loaded (44_transfer.md R204). -/
def loadedRequest (s : State) (i : Nat) (ack : Bool) : LinkReq :=
  .write
    (frameBytes s.cfg.opWriteImg
      ((s.sel ||| (if i = 0 then 0x00#8 else s.cfg.hdrCont)) ::
        planeSlice s (s.base.toNat + i * s.cs.toNat) (min s.cs.toNat (s.planeLen.toNat - i * s.cs.toNat))))
    ack

theorem loadedRequest_sendNextChunk (s : State) (i : Nat) (a : Bool) :
    loadedRequest (sendNextChunk s) i a = loadedRequest s i a := rfl

/-- One turn sends the request of the next chunk. -/
theorem nextRequest_eq (s : State) :
    LinkReq.write (frameBytes s.cfg.opWriteImg (nextHeader s :: nextChunk s)) (nextChunkAcked s) =
      loadedRequest s s.chunkIdx.toNat (nextChunkAcked s) := by
  unfold loadedRequest nextHeader nextChunk nextOffset
  have : (s.chunkIdx = 0) ↔ (s.chunkIdx.toNat = 0) := ⟨fun h => by rw [h]; rfl, fun h => BitVec.eq_of_toNat_eq h⟩
  simp only [this]

/-- With `n` chunks left and a counter that is not 0, the loop sends as many chunks as the counter and the plane allow,
and only the last of them is acknowledged. -/
theorem sendLoop_closed (n : Nat) : ∀ s : State, s.chunkCnt.toNat = s.chunkIdx.toNat + n → 1 ≤ n →
    1 ≤ s.ilCnt.toNat →
    sendLoop n s =
      afterChunks s (min s.ilCnt.toNat n)
        ((List.range (min s.ilCnt.toNat n)).map
          (fun j => loadedRequest s (s.chunkIdx.toNat + j) (decide (j + 1 = min s.ilCnt.toNat n)))) := by
  induction n with
  | zero => intro s _ h; omega
  | succ n ih =>
    intro s hcnt _ hil
    have hone : (s.ilCnt - 1 = 0) ↔ s.ilCnt.toNat = 1 := by
      constructor
      · intro h
        have := congrArg BitVec.toNat h
        simp only [BitVec.toNat_sub] at this
        have := s.ilCnt.isLt
        simp at *
        omega
      · intro h; apply BitVec.eq_of_toNat_eq; simp [BitVec.toNat_sub, h]
    have hack : nextChunkAcked s = true ↔ (s.ilCnt.toNat = 1 ∨ n = 0) := by
      have hlast : (s.chunkIdx.toNat + 1 = s.chunkCnt.toNat) ↔ n = 0 := by omega
      simp only [nextChunkAcked, hlast, Bool.or_eq_true, decide_eq_true_eq, hone]
    by_cases ha : nextChunkAcked s = true
    · have hm : min s.ilCnt.toNat (n + 1) = 1 := by
        rcases hack.1 ha with h | h
        · omega
        · omega
      rw [hm]
      have := nextRequest_eq s
      simp only [ha] at this
      simp [sendLoop, ha, sendNextChunk, issueChunk, afterChunks, this]
    · have ha' : nextChunkAcked s = false := by simpa using ha
      have hh : ¬(s.ilCnt.toNat = 1 ∨ n = 0) := fun h => ha (hack.2 h)
      have i1 : (sendNextChunk s).chunkIdx.toNat = s.chunkIdx.toNat + 1 := by
        have := s.chunkCnt.isLt
        show (s.chunkIdx + 1).toNat = _
        rw [BitVec.toNat_add, Nat.mod_eq_of_lt (by simp; omega)]; rfl
      have i2 : (sendNextChunk s).ilCnt.toNat = s.ilCnt.toNat - 1 := by
        have := s.ilCnt.isLt
        show (s.ilCnt - 1).toNat = _
        rw [BitVec.toNat_sub]; simp; omega
      have hr := ih (sendNextChunk s) (by rw [i1]; show s.chunkCnt.toNat = _; omega) (by omega) (by omega)
      rw [i1, i2] at hr
      obtain ⟨k, hk⟩ : ∃ k, min s.ilCnt.toNat (n + 1) = k + 1 := ⟨min s.ilCnt.toNat (n + 1) - 1, by omega⟩
      rw [show min (s.ilCnt.toNat - 1) n = k by omega] at hr
      rw [hk, sendLoop, if_neg (by simp [ha']), hr]
      have hq := nextRequest_eq s
      rw [ha'] at hq
      have hlist :
          (sendNextChunk s).linkOut ++ ((List.range k).map fun j =>
              loadedRequest (sendNextChunk s) (s.chunkIdx.toNat + 1 + j) (decide (j + 1 = k))) =
            s.linkOut ++ ((List.range (k + 1)).map fun j =>
              loadedRequest s (s.chunkIdx.toNat + j) (decide (j + 1 = k + 1))) := by
        rw [List.range_succ_eq_map]
        simp only [List.map_cons, List.map_map]
        rw [show (sendNextChunk s).linkOut = s.linkOut ++ [loadedRequest s s.chunkIdx.toNat false] from by
          rw [← hq]; simp [sendNextChunk, issueChunk, ha']]
        rw [List.append_assoc]
        congr 1
        rw [show decide (0 + 1 = k + 1) = false by simp; omega]
        simp only [List.cons_append, List.nil_append, Nat.add_zero, List.cons.injEq, true_and]
        apply List.map_congr_left
        intro j _
        rw [loadedRequest_sendNextChunk]
        simp only [Function.comp, Nat.succ_eq_add_one, Nat.add_right_cancel_iff]
        congr 1; omega
      unfold afterChunks
      rw [hlist]
      simp only [sendNextChunk, issueChunk]
      congr 1
      · simp only [BitVec.ofNat_add, BitVec.add_assoc]; rw [BitVec.add_comm 1]; rfl
      · simp only [BitVec.ofNat_add]
        apply BitVec.eq_of_toNat_eq
        simp [BitVec.toNat_sub]
        omega

end Sys2Proof.Machine
end

