-- ==== Sys2Proof/Laws/Memory.lean ====
section
/-! SUPPORT. The laws of the two memories: read after write, the canonical form, the bound on the keys. -/

namespace Sys2Proof.Machine

variable {w : Nat}

theorem Memory.read_write_same (m : Memory w) (a : Nat) (v : BitVec w) :
    Memory.read (Memory.write m a v) a = some v := by
  induction m with
  | nil => simp [Memory.write, Memory.read]
  | cons c t ih =>
    obtain ⟨k, u⟩ := c
    unfold Memory.write
    split
    · simp [Memory.read]
    · split
      · simp [Memory.read]
      · rename_i h1 h2
        simp [Memory.read, ih, Ne.symm h2]

theorem Memory.read_write_other (m : Memory w) (a b : Nat) (v : BitVec w) (h : b ≠ a) :
    Memory.read (Memory.write m a v) b = Memory.read m b := by
  induction m with
  | nil => simp [Memory.write, Memory.read, h.symm]
  | cons c t ih =>
    obtain ⟨k, u⟩ := c
    unfold Memory.write
    split
    · simp [Memory.read, h.symm]
    · split
      · rename_i h1 h2
        subst h2
        simp [Memory.read, h.symm]
      · simp [Memory.read, ih]

/-- What reading a memory gives after a write. -/
theorem Memory.read_write (m : Memory w) (a b : Nat) (v : BitVec w) :
    Memory.read (Memory.write m a v) b = if b = a then some v else Memory.read m b := by
  split
  · subst_vars; exact Memory.read_write_same m _ v
  · exact Memory.read_write_other m a b v ‹_›

theorem Memory.wf_cons (c : Nat × BitVec w) (t : Memory w) :
    Memory.wf (c :: t) = true ↔ (∀ d ∈ t.head?, c.1 < d.1) ∧ Memory.wf t = true := by
  cases t with
  | nil => simp [Memory.wf]
  | cons d t => simp [Memory.wf]

theorem Memory.head_write (m : Memory w) (a n : Nat) (v : BitVec w) (h : n < a) (hm : ∀ d ∈ m.head?, n < d.1) :
    ∀ d ∈ (Memory.write m a v).head?, n < d.1 := by
  cases m with
  | nil => simpa [Memory.write] using h
  | cons c t =>
    obtain ⟨k, u⟩ := c
    have hk : n < k := by simpa using hm
    unfold Memory.write
    split
    · simpa using h
    · split <;> simp_all

/-- Every memory operation keeps the canonical form. -/
theorem Memory.wf_write (m : Memory w) (a : Nat) (v : BitVec w) (h : Memory.wf m = true) :
    Memory.wf (Memory.write m a v) = true := by
  induction m with
  | nil => simp [Memory.write, Memory.wf]
  | cons c t ih =>
    obtain ⟨k, u⟩ := c
    obtain ⟨h1, h2⟩ := (Memory.wf_cons _ _).1 h
    unfold Memory.write
    split
    · exact (Memory.wf_cons _ _).2 ⟨by simpa using ‹a < k›, h⟩
    · split
      · subst_vars
        exact (Memory.wf_cons _ _).2 ⟨h1, h2⟩
      · exact (Memory.wf_cons _ _).2 ⟨Memory.head_write t a k v (by omega) h1, ih h2⟩

/-- A write below the bound keeps every key below the bound. -/
theorem keysBelow_write (m : Memory w) (a n : Nat) (v : BitVec w) (ha : a < n) (h : keysBelow m n = true) :
    keysBelow (Memory.write m a v) n = true := by
  induction m with
  | nil => simpa [Memory.write, keysBelow] using ha
  | cons c t ih =>
    obtain ⟨k, u⟩ := c
    have hk : k < n ∧ keysBelow t n = true := by simpa [keysBelow] using h
    unfold Memory.write
    split
    · simpa [keysBelow] using ⟨ha, by simpa [keysBelow] using h⟩
    · split
      · simpa [keysBelow] using ⟨ha, by simpa [keysBelow] using hk.2⟩
      · have := ih hk.2
        simp only [keysBelow, List.all_cons, Bool.and_eq_true, decide_eq_true_eq] at this ⊢
        exact ⟨hk.1, this⟩

/-- Reading an accumulator after a write to one. -/
theorem readAccumulator_write (s : State) (i j : Nat) (v : BitVec 32) :
    readAccumulator (writeAccumulator s i v) j = if j = i then v else readAccumulator s j := by
  by_cases h : j = i
  · simp [readAccumulator, writeAccumulator, Memory.read_write, h]
  · simp [readAccumulator, writeAccumulator, Memory.read_write, h]

/-- Reading a plane byte after a write to one. -/
theorem readPlaneByte_write (s : State) (i j : Nat) (v : Byte) :
    readPlaneByte (writePlaneByte s i v) j = if j = i then v else readPlaneByte s j := by
  by_cases h : j = i
  · simp only [readPlaneByte, writePlaneByte]
    rw [Memory.read_write]; simp [h]
  · simp only [readPlaneByte, writePlaneByte]
    rw [Memory.read_write]; simp [h]

/-- Writing an accumulator changes no plane byte. -/
theorem readPlaneByte_writeAccumulator (s : State) (i j : Nat) (v : BitVec 32) :
    readPlaneByte (writeAccumulator s i v) j = readPlaneByte s j := rfl

/-- Writing a plane byte changes no accumulator. -/
theorem readAccumulator_writePlaneByte (s : State) (i j : Nat) (v : Byte) :
    readAccumulator (writePlaneByte s i v) j = readAccumulator s j := rfl

end Sys2Proof.Machine
end

