-- ==== Sys2Proof/Laws/Passes.lean ====
section
/-! SUPPORT. What the passes of the compute engine can change: the quantizer's only pixel memory, the packer's only
plane memory; the two induction principles over a pass; and in which turn a pass overflows. -/

namespace Sys2Proof.Machine

/-- `t` is `s` but for pixel memory. -/
def PixOnly (s t : State) : Prop := t = { s with pix := t.pix }

/-- `t` is `s` but for plane memory. -/
def PlanesOnly (s t : State) : Prop := t = { s with planeMem := t.planeMem }

theorem PixOnly.refl (s : State) : PixOnly s s := rfl

theorem PixOnly.trans {s t u : State} (h : PixOnly s t) (h' : PixOnly t u) : PixOnly s u := by
  unfold PixOnly at *; rw [h', h]

theorem PlanesOnly.refl (s : State) : PlanesOnly s s := rfl

theorem PlanesOnly.trans {s t u : State} (h : PlanesOnly s t) (h' : PlanesOnly t u) : PlanesOnly s u := by
  unfold PlanesOnly at *; rw [h', h]

/-- The state a pass leaves, whether it went on or overflowed. -/
def Pass.last : Pass → State
  | .going s => s
  | .overflowed s => s

/-- What every turn keeps, a whole pass keeps, to its end or to its overflow. -/
theorem runAll_keeps {α : Type} (P : State → Prop) (f : α → State → Pass) (l : List α)
    (hf : ∀ a ∈ l, ∀ s, P s → P (f a s).last) : ∀ s, P s → P (runAll f l s).last := by
  induction l with
  | nil => intro s hs; exact hs
  | cons a rest ih =>
    intro s hs
    have ha := hf a List.mem_cons_self s hs
    unfold runAll
    split
    · rename_i s' heq
      rw [heq] at ha
      exact ih (fun b hb => hf b (List.mem_cons_of_mem _ hb)) s' ha
    · rename_i s' heq
      rw [heq] at ha
      exact ha

/-- What every turn keeps, a fold keeps. -/
theorem foldl_keeps {α : Type} (P : State → Prop) (f : State → α → State) (l : List α)
    (hf : ∀ a ∈ l, ∀ s, P s → P (f s a)) : ∀ s, P s → P (l.foldl f s) := by
  induction l with
  | nil => intro s hs; exact hs
  | cons a rest ih =>
    intro s hs
    exact ih (fun b hb => hf b (List.mem_cons_of_mem _ hb)) _ (hf a List.mem_cons_self s hs)

/-- A pass over two lists is the pass over the second after the pass over the first. -/
theorem runAll_append {α : Type} (f : α → State → Pass) (l m : List α) (s : State) :
    runAll f (l ++ m) s =
      match runAll f l s with
      | .going u => runAll f m u
      | .overflowed v => .overflowed v := by
  induction l generalizing s with
  | nil => rfl
  | cons a rest ih =>
    simp only [List.cons_append, runAll]
    cases f a s with
    | going u => exact ih u
    | overflowed v => rfl

/-- A pass that overflows does so in one of its turns, after every turn before it went on. -/
theorem runAll_overflowed {α : Type} (f : α → State → Pass) (l : List α) (s v : State)
    (h : runAll f l s = .overflowed v) :
    ∃ k a u, l[k]? = some a ∧ runAll f (l.take k) s = .going u ∧ f a u = .overflowed v := by
  induction l generalizing s with
  | nil => cases h
  | cons a rest ih =>
    unfold runAll at h
    split at h
    · rename_i s' hs
      obtain ⟨k, b, u, hk, hu, hb⟩ := ih s' h
      exact ⟨k + 1, b, u, by simpa using hk, by simp only [List.take_succ_cons, runAll, hs]; exact hu, hb⟩
    · rename_i s' hs
      cases h
      exact ⟨0, a, s, rfl, rfl, hs⟩

/-- The error-diffusion pass visits the pixels in rising order (41_quantizer.md R135). -/
theorem diffusedTo_eq_runAll (s : State) (n : Nat) : diffusedTo s n = runAll diffusePixel (List.range n) s := by
  induction n with
  | zero => rfl
  | succ n ih =>
    rw [List.range_succ, runAll_append, ← ih, diffusedTo]
    cases diffusedTo s n with
    | going u => simp only [runAll]; cases diffusePixel n u <;> rfl
    | overflowed v => rfl

theorem writeAccumulator_pixOnly (s : State) (i : Nat) (v : BitVec 32) : PixOnly s (writeAccumulator s i v) := rfl

theorem writeScaledPixel_pixOnly (s : State) (p : Nat) (q : Rgb) : PixOnly s (writeScaledPixel s p q) := rfl

theorem plainPixel_pixOnly (s : State) (p : Nat) : PixOnly s (plainPixel s p) := rfl

theorem orderedPixel_pixOnly (s : State) (p : Nat) : PixOnly s (orderedPixel s p) := rfl

theorem addShare_pixOnly (u : Nat × Int) (s : State) : PixOnly s (addShare u s).last := by
  unfold addShare
  dsimp only
  split <;> rfl

theorem diffusePixel_pixOnly (p : Nat) (s : State) : PixOnly s (diffusePixel p s).last := by
  unfold diffusePixel
  exact runAll_keeps (PixOnly s) addShare _ (fun u _ t ht => ht.trans (addShare_pixOnly u t)) _
    (writeScaledPixel_pixOnly s p _)

theorem plainPass_pixOnly (l : List Nat) (s : State) : PixOnly s (l.foldl plainPixel s) :=
  foldl_keeps (PixOnly s) plainPixel l (fun p _ t ht => ht.trans (plainPixel_pixOnly t p)) s (PixOnly.refl s)

theorem orderedPass_pixOnly (l : List Nat) (s : State) : PixOnly s (l.foldl orderedPixel s) :=
  foldl_keeps (PixOnly s) orderedPixel l (fun p _ t ht => ht.trans (orderedPixel_pixOnly t p)) s (PixOnly.refl s)

theorem diffusePass_pixOnly (l : List Nat) (s : State) : PixOnly s (runAll diffusePixel l s).last :=
  runAll_keeps (PixOnly s) diffusePixel l (fun p _ t ht => ht.trans (diffusePixel_pixOnly p t)) s (PixOnly.refl s)

theorem zeroPlaneByte_planesOnly (s : State) (j : Nat) : PlanesOnly s (zeroPlaneByte s j) := rfl

theorem setPlaneBit_planesOnly (s : State) (j x : Nat) (bit : Bool) : PlanesOnly s (setPlaneBit s j x bit) := by
  cases bit <;> rfl

theorem packPixel_planesOnly (s : State) (p : Nat) : PlanesOnly s (packPixel s p) :=
  (setPlaneBit_planesOnly s _ _ _).trans (setPlaneBit_planesOnly _ _ _ _)

theorem packPlanes_planesOnly (s : State) : PlanesOnly s (packPlanes s) :=
  foldl_keeps (PlanesOnly s) packPixel _ (fun p _ t ht => ht.trans (packPixel_planesOnly t p)) _
    (foldl_keeps (PlanesOnly s) zeroPlaneByte _ (fun j _ t ht => ht.trans (zeroPlaneByte_planesOnly t j)) s
      (PlanesOnly.refl s))

/-! ### The canonical form -/

theorem writeScaledPixel_wf (s : State) (p : Nat) (q : Rgb) (h : Memory.wf s.pix = true) :
    Memory.wf (writeScaledPixel s p q).pix = true :=
  Memory.wf_write _ _ _ (Memory.wf_write _ _ _ (Memory.wf_write _ _ _ h))

theorem addShare_wf (u : Nat × Int) (s : State) (h : Memory.wf s.pix = true) :
    Memory.wf (addShare u s).last.pix = true := by
  unfold addShare
  dsimp only
  split
  · exact h
  · exact Memory.wf_write _ _ _ h

theorem diffusePixel_wf (p : Nat) (s : State) (h : Memory.wf s.pix = true) :
    Memory.wf (diffusePixel p s).last.pix = true :=
  runAll_keeps (fun t => Memory.wf t.pix = true) addShare _ (fun u _ t ht => addShare_wf u t ht) _
    (writeScaledPixel_wf s p _ h)

theorem setPlaneBit_wf (s : State) (j x : Nat) (bit : Bool) (h : Memory.wf s.planeMem = true) :
    Memory.wf (setPlaneBit s j x bit).planeMem = true := by
  cases bit
  · exact h
  · exact Memory.wf_write _ _ _ h

theorem packPlanes_wf (s : State) (h : Memory.wf s.planeMem = true) : Memory.wf (packPlanes s).planeMem = true :=
  foldl_keeps (fun t => Memory.wf t.planeMem = true) packPixel _
    (fun _ _ t ht => setPlaneBit_wf _ _ _ _ (setPlaneBit_wf t _ _ _ ht)) _
    (foldl_keeps (fun t => Memory.wf t.planeMem = true) zeroPlaneByte _ (fun _ _ _ ht => Memory.wf_write _ _ _ ht) s h)

/-! ### A pixel after it is written -/

theorem readAccumulator_writeScaledPixel (s : State) (p i : Nat) (q : Rgb) (h : i < 3 * p ∨ 3 * p + 2 < i) :
    readAccumulator (writeScaledPixel s p q) i = readAccumulator s i := by
  simp only [writeScaledPixel, readAccumulator_write, pixelBase]
  rw [if_neg (by omega), if_neg (by omega), if_neg (by omega)]

/-- A pixel other than the written one reads as before. -/
theorem readPixel_writeScaledPixel_other (s : State) (p p' : Nat) (q : Rgb) (h : p' ≠ p) :
    readPixel (writeScaledPixel s p q) p' = readPixel s p' := by
  simp only [readPixel, pixelBase]
  rw [readAccumulator_writeScaledPixel s p _ q (by omega), readAccumulator_writeScaledPixel s p _ q (by omega),
    readAccumulator_writeScaledPixel s p _ q (by omega)]

/-- The written pixel reads as 256 times the colour, for channel values that fit. -/
theorem readPixel_writeScaledPixel_same (s : State) (p : Nat) (q : Rgb)
    (hr : -8388608 ≤ q.r ∧ q.r ≤ 8388607) (hg : -8388608 ≤ q.g ∧ q.g ≤ 8388607)
    (hb : -8388608 ≤ q.b ∧ q.b ≤ 8388607) :
    readPixel (writeScaledPixel s p q) p = { r := 256 * q.r, g := 256 * q.g, b := 256 * q.b } := by
  have fit : ∀ v : Int, -8388608 ≤ v ∧ v ≤ 8388607 → (BitVec.ofInt 32 (256 * v)).toInt = 256 * v := by
    intro v hv
    rw [BitVec.toInt_ofInt]
    exact Int.bmod_eq_of_le (by omega) (by omega)
  simp [readPixel, writeScaledPixel, readAccumulator_write, pixelBase, fit _ hr, fit _ hg, fit _ hb]

end Sys2Proof.Machine
end

