-- ==== Sys2Proof/Laws/PerInstr.lean ====
section
/-! SUPPORT. Statements made instruction by instruction. -/

/-! ### The shape of an encoding (30_encoding.md R90, R91, R95, R100) -/

/-- A well-formed instruction encodes to a command word whose bits [31:8] are 0, or to a frame of one byte, or to a frame
with a payload. The frames of R100 have one byte, or two and 1 to 65534 chunk bytes. -/
def Sys2Proof.Laws.EncodedShape.Statement (i : Sys2Proof.Instr) : Prop :=
  ∀ p : Sys2Proof.Config.Params, Sys2Proof.wellFormed p i = true →
    match i with
    | .nop | .openSession | .quant | .pack | .xfer | .close | .ldkern | .illegal _ =>
      ∃ w : Sys2Proof.Word, Sys2Proof.encode p i = .command w ∧ w.toNat < 256
    | .init | .clear | .refresh => ∃ op : Sys2Proof.Byte, Sys2Proof.encode p i = .frame [op]
    | .writeImg _ _ => ∃ b : List Sys2Proof.Byte, Sys2Proof.encode p i = .frame b ∧ 3 ≤ b.length ∧ b.length ≤ 65536
    | .pinConfig payload | .sleep payload | .reset payload | .configErase payload =>
      ∃ op : Sys2Proof.Byte, Sys2Proof.encode p i = .frame (op :: payload)

namespace Sys2Proof.Laws

theorem EncodedShape.nop : EncodedShape.Statement .nop := fun _ _ => ⟨_, rfl, by decide⟩

theorem EncodedShape.openSession : EncodedShape.Statement .openSession := fun _ _ => ⟨_, rfl, by decide⟩

theorem EncodedShape.quant : EncodedShape.Statement .quant := fun _ _ => ⟨_, rfl, by decide⟩

theorem EncodedShape.pack : EncodedShape.Statement .pack := fun _ _ => ⟨_, rfl, by decide⟩

theorem EncodedShape.xfer : EncodedShape.Statement .xfer := fun _ _ => ⟨_, rfl, by decide⟩

theorem EncodedShape.close : EncodedShape.Statement .close := fun _ _ => ⟨_, rfl, by decide⟩

theorem EncodedShape.ldkern : EncodedShape.Statement .ldkern := fun _ _ => ⟨_, rfl, by decide⟩

theorem EncodedShape.illegal (op : Byte) : EncodedShape.Statement (.illegal op) :=
  fun _ _ => ⟨_, rfl, by rw [BitVec.toNat_setWidth]; have := op.isLt; omega⟩

theorem EncodedShape.init : EncodedShape.Statement .init := fun _ _ => ⟨_, rfl⟩

theorem EncodedShape.clear : EncodedShape.Statement .clear := fun _ _ => ⟨_, rfl⟩

theorem EncodedShape.refresh : EncodedShape.Statement .refresh := fun _ _ => ⟨_, rfl⟩

theorem EncodedShape.writeImg (hdr : Byte) (chunk : List Byte) : EncodedShape.Statement (.writeImg hdr chunk) := by
  intro p h
  simp only [wellFormed, maxChunk, Bool.and_eq_true, decide_eq_true_eq] at h
  obtain ⟨⟨_, h1⟩, h2⟩ := h
  have h2 := of_decide_eq_true h2
  exact ⟨_, rfl, by simp [frameBytes]; omega, by simp [frameBytes]; omega⟩

theorem EncodedShape.pinConfig (payload : List Byte) : EncodedShape.Statement (.pinConfig payload) := fun _ _ => ⟨_, rfl⟩

theorem EncodedShape.sleep (payload : List Byte) : EncodedShape.Statement (.sleep payload) := fun _ _ => ⟨_, rfl⟩

theorem EncodedShape.reset (payload : List Byte) : EncodedShape.Statement (.reset payload) := fun _ _ => ⟨_, rfl⟩

theorem EncodedShape.configErase (payload : List Byte) : EncodedShape.Statement (.configErase payload) := fun _ _ => ⟨_, rfl⟩

end Sys2Proof.Laws
end

