-- ==== Sys2Proof/Laws/Step.lean ====
section
/-! SUPPORT. What a step can do: nothing, or one event; and what recording a notification can change. -/

namespace Sys2Proof.Machine

/-- With nothing in the framer's own input a step waits, or takes the oldest event. -/
theorem step_cases (s s' : State) (hf : s.framer = none) (h : step s = .next s') :
    (s.inputs = [] ∧ s' = s) ∨ ∃ e rest, s.inputs = e :: rest ∧ onEvent e { s with inputs := rest } = .next s' := by
  unfold step takeNext at h
  split at h
  · rename_i b hb; rw [hf] at hb; cases hb
  · split at h
    · rename_i hi; exact .inl ⟨hi, by cases h; rfl⟩
    · rename_i e rest hi; exact .inr ⟨e, rest, hi, h⟩

/-- A delivered event is taken by the next step. -/
theorem step_deliver (s : State) (e : Event) (hf : s.framer = none) : step (deliver e s) = onEvent e s := by
  unfold step takeNext
  split
  · rename_i b hb; rw [show (deliver e s).framer = s.framer from rfl, hf] at hb; cases hb
  · split
    · rename_i hi; cases hi
    · rename_i e' rest hi
      obtain ⟨rfl, rfl⟩ := List.cons.inj hi
      rfl

/-- Recording a notification changes the record, the model's resolution, the transfer unit, the counters and their
flags only (43_session.md R176 to R180). -/
theorem recordNotification_frame (b : List Byte) (s : State) :
    ∃ (d e f g : Bool) (m : Vector Word 3) (tu dw dh : Half) (n1 n2 n3 : Byte),
      recordNotification b s =
        { s with
          status := { s.status with cfgRcvd := d, cfgValid := e, mtuRcvd := f, devResValid := g }
          epdcfg := m, tu := tu, devW := dw, devH := dh, notifCnt := n1, malfCnt := n2, ignCnt := n3 } := by
  unfold recordNotification laterNotification configNotification modelLookup latchMtu
  repeat' (first | split | exact ⟨_, _, _, _, _, _, _, _, _, _, _, rfl⟩)

/-- A register write changes the configuration registers, `IE` and the write-one-to-clear bits only. -/
theorem writeReg_frame (d : Word) (s : State) (r : Reg) :
    (writeReg d s r).cfg = s.cfg ∧ (writeReg d s r).seqState = s.seqState ∧ (writeReg d s r).wait = s.wait ∧
    (writeReg d s r).curOp = s.curOp ∧ (writeReg d s r).status.busy = s.status.busy ∧
    (writeReg d s r).linkOut = s.linkOut ∧ (writeReg d s r).pix = s.pix ∧ (writeReg d s r).planeMem = s.planeMem := by
  cases r <;> exact ⟨rfl, rfl, rfl, rfl, rfl, rfl, rfl, rfl⟩

end Sys2Proof.Machine
end

