-- ==== Sys2Proof/Tests/Slice0.lean ====
section
/-! SUPPORT. Tests on small states, the smoke tests of WellFormed, and for every statement with hypotheses the states
and operands that meet them. Expected results are taken from the encodings, tables and worked examples of spec/. -/

namespace Sys2Proof.Tests

open Sys2Proof.Machine

/-! ### Sample states -/

/-- Parameters with the default wire bytes of 00_scope.md R6 and small memories. -/
def params : Config.Params :=
  { pixCap := 100, planeCap := 100, modelRes := [⟨0x05#8, 10#16, 4#16⟩]
    opInit := 0x01#8, opClear := 0x02#8, opRefresh := 0x05#8, opWriteImg := 0x30#8
    hdrSel0 := 0x0F#8, hdrSel1 := 0x00#8, hdrCont := 0xF0#8 }

/-- Right after reset, with those parameters. -/
def idle : State := { State.reset with cfg := params }

/-- In READY with the resolution `w` by `h` and a transfer unit. -/
def ready (w h tu : Half) : State :=
  { idle with
    seqState := .ready, resW := w, resH := h, tu := tu
    status := { Status.atReset with resValid := true, subscribed := true } }

/-- In READY with planes of 16 by 2 pixels: two rows of two bytes. -/
def packed : State :=
  { ready 16 2 3 with
    planeLen := 4
    planeMem := [(0, 0xA0#8), (1, 0xA1#8), (2, 0xA2#8), (3, 0xA3#8)]
    status := { Status.atReset with resValid := true, subscribed := true, planesValid := true } }

/-- OPEN in progress at a wait point. -/
def opening (q : SeqState) (w : Wait) (sub : Bool) : State :=
  { idle with curOp := .openOp, seqState := q, wait := w, status := { Status.atReset with busy := true, subscribed := sub } }

/-- NEGOTIATING at a wait point with the given signals. -/
def negotiating (w : Wait) (cfg mtu : Bool) : State :=
  { opening .negotiating w true with
    timer := 1, linkmax := 100
    status := { Status.atReset with busy := true, subscribed := true, cfgRcvd := cfg, mtuRcvd := mtu } }

/-- QUANT in progress on an image of width `w` with these accumulators. -/
def quantizing (a : Alg) (m : Mode) (w : Half) (accs : List (Nat × BitVec 32)) : State :=
  { ready w 1 20 with
    curOp := .quantOp, wait := .engine, alg := a, mode := m, pix := accs
    status := { Status.atReset with busy := true, resValid := true, subscribed := true } }

/-- Three equal accumulators for each of the given channel values. -/
def greys (vs : List Nat) : List (Nat × BitVec 32) :=
  (List.range (3 * vs.length)).map (fun i => (i, BitVec.ofNat 32 (256 * vs.getD (i / 3) 0)))

/-- PACK in progress on an image of width `w`. -/
def packing (m : Mode) (w : Half) (accs : List (Nat × BitVec 32)) : State :=
  { quantizing .plain m w accs with curOp := .packOp }

/-- XFER in progress: plane B of `packed` in two chunks of two bytes, each acknowledged; the first has been sent. -/
def transferring (w : Wait) : State :=
  { packed with
    curOp := .xferOp, seqState := .transferring, wait := w, timer := 1
    cs := 2, nplanes := 1, interleave := 1, ilCnt := 1, sel := 0x0F#8, chunkCnt := 2, chunkIdx := 1
    status := { packed.status with busy := true } }

/-- XFER in progress after REFRESH was sent. -/
def refreshing (w : Wait) : State := { transferring w with seqState := .refreshing }

/-- CLOSE in progress. -/
def closing (w : Wait) : State :=
  { ready 16 2 3 with
    curOp := .closeOp, seqState := .teardown, wait := w
    status := { Status.atReset with busy := true, resValid := true } }

/-- What a next state holds in a field; nothing for a fault or a refusal. -/
def after {α : Type} (o : Host.Outcome State Fault Refusal) (f : State → α) : Option α :=
  match o with
  | .next t => some (f t)
  | .fault _ => none
  | .refused _ => none

/-- The refusal an outcome is, if it is one. -/
def refusal (o : Host.Outcome State Fault Refusal) : Option Refusal :=
  match o with
  | .next _ => none
  | .fault _ => none
  | .refused r => some r

/-- The bytes of an ASCII text. -/
def ascii (s : String) : List Byte := s.toList.map (fun c => BitVec.ofNat 8 c.toNat)

/-! ### WellFormed refuses what each check is for -/

theorem test_wf_reserved_op_only : wellFormed params (.illegal 0x06#8) = false := by decide
theorem test_wf_header_byte : wellFormed params (.writeImg 0xAB#8 [0#8]) = false := by decide
theorem test_wf_chunk_empty : wellFormed params (.writeImg 0x0F#8 []) = false := by decide
theorem test_wf_chunk_too_long : wellFormed params (.writeImg 0x0F#8 (List.replicate 65535 0#8)) = false := by
  simp only [wellFormed, List.length_replicate]; decide
theorem test_wf_pin_config : wellFormed { params with opClear := 0x00#8 } (.pinConfig []) = false := by decide
theorem test_wf_sleep : wellFormed { params with opClear := 0x06#8 } (.sleep []) = false := by decide
theorem test_wf_reset : wellFormed { params with opInit := 0x91#8 } (.reset []) = false := by decide
theorem test_wf_config_erase : wellFormed { params with opInit := 0x99#8 } (.configErase []) = false := by decide

theorem test_params_ok : params.Ok := by decide
theorem test_params_pix_cap_low : ¬{ params with pixCap := 0 }.Ok := by decide
theorem test_params_pix_cap_high : ¬{ params with pixCap := 4194305 }.Ok := by decide
theorem test_params_plane_cap_low : ¬{ params with planeCap := 1 }.Ok := by decide
theorem test_params_plane_cap_high : ¬{ params with planeCap := 0x00FF0001 }.Ok := by decide
theorem test_params_model_width : ¬{ params with modelRes := [⟨1, 0, 1⟩] }.Ok := by decide
theorem test_params_model_height : ¬{ params with modelRes := [⟨1, 1, 0⟩] }.Ok := by decide
theorem test_params_selectors : ¬{ params with hdrSel1 := 0x0F#8 }.Ok := by decide
theorem test_params_cont_zero : ¬{ params with hdrCont := 0x00#8 }.Ok := by decide
theorem test_params_cont_sel0 : ¬{ params with hdrCont := 0xF1#8 }.Ok := by decide
theorem test_params_cont_sel1 : ¬{ params with hdrSel1 := 0x80#8 }.Ok := by decide
theorem test_params_opcodes : ¬{ params with opClear := 0x01#8 }.Ok := by decide

/-! ### Decoding words written out from 30_encoding.md R92, R93, R96, R98, R101 -/

theorem test_decode_nop : decodeCommand 0b00000000#32 = .nop := by decide
theorem test_decode_open : decodeCommand 0b00000001#32 = .openSession := by decide
theorem test_decode_quant : decodeCommand 0b00000010#32 = .quant := by decide
theorem test_decode_pack : decodeCommand 0b00000011#32 = .pack := by decide
theorem test_decode_xfer : decodeCommand 0b00000100#32 = .xfer := by decide
theorem test_decode_close : decodeCommand 0b00000101#32 = .close := by decide
theorem test_decode_ldkern : decodeCommand 0b00000110#32 = .ldkern := by decide
theorem test_decode_illegal_first : decodeCommand 0b00000111#32 = .illegal 0x07#8 := by decide
theorem test_decode_illegal_last : decodeCommand 0xFFFFFFFF#32 = .illegal 0xFF#8 := by decide
theorem test_decode_ignores_high_bits : decodeCommand 0x00000100#32 = .nop := by decide
theorem test_decode_init : decodeFrame params [0b00000001#8] = .ok .init := by decide
theorem test_decode_clear : decodeFrame params [0b00000010#8] = .ok .clear := by decide
theorem test_decode_refresh : decodeFrame params [0b00000101#8] = .ok .refresh := by decide
theorem test_decode_write_img :
    decodeFrame params [0b00110000#8, 0b00001111#8, 0xAA#8, 0x80#8] = .ok (.writeImg 0x0F#8 [0xAA#8, 0x80#8]) := by decide
theorem test_decode_write_img_plane_r :
    decodeFrame params [0b00110000#8, 0b11110000#8, 0x01#8] = .ok (.writeImg 0xF0#8 [0x01#8]) := by decide
theorem test_decode_pin_config : decodeFrame params [0x00#8] = .ok (.pinConfig []) := by decide
theorem test_decode_sleep : decodeFrame params [0x06#8, 0x01#8] = .ok (.sleep [0x01#8]) := by decide
theorem test_decode_reset : decodeFrame params [0x91#8] = .ok (.reset []) := by decide
theorem test_decode_config_erase : decodeFrame params [0x99#8] = .ok (.configErase []) := by decide
theorem test_decode_empty : decodeFrame params [] = .error .emptyFrame := by decide
theorem test_decode_unknown : decodeFrame params [0x77#8] = .error (.unknownOpcode 0x77#8) := by decide
theorem test_decode_bare_payload : decodeFrame params [0x01#8, 0x00#8] = .error .payloadNotEmpty := by decide
theorem test_decode_no_chunk : decodeFrame params [0x30#8, 0x0F#8] = .error .chunkLength := by decide
theorem test_decode_bad_header : decodeFrame params [0x30#8, 0xAB#8, 0x00#8] = .error (.badHeader 0xAB#8) := by decide

theorem test_table_command : decodeTableWord 32 0x00000006 = some .ldkern := by decide
theorem test_table_frame : decodeTableWord 8 0x30 = some (.writeImg 0x00#8 [0x00#8]) := by decide
theorem test_table_vendor : decodeTableWord 8 0x99 = some (.configErase []) := by decide

/-! ### A step runs it -/

theorem test_fetch_open : after (step (State.reset.withFetchWord 32 0x00000001)) State.linkOut = some [.connect] := by
  decide
theorem test_fetch_init : after (step (State.reset.withFetchWord 8 0x01)) State.linkOut = some [.write [0x01#8] true] := by
  decide
theorem test_fetch_sleep :
    refusal (step (State.reset.withFetchWord 8 0x06)) = some (.vendorFrameNeverEmitted "SLEEP") := by decide

/-! ### One step of each instruction -/

/-- 40_command.md R125: STATUS = 0x00000002. -/
theorem test_nop : after (exec .nop idle) (fun t => readReg t .status) = some 0x00000002#32 := by decide
/-- 43_session.md R170: CONNECTING / W_CONNECT. -/
theorem test_open : after (exec .openSession idle) (fun t => (t.linkOut, readReg t .seq)) = some ([.connect], 0x00000011#32) := by
  decide
theorem test_open_in_ready : after (exec .openSession (ready 16 2 3)) (fun t => readReg t .errcode) = some 0x31#32 := by decide
theorem test_quant : after (exec .quant (ready 1 1 3)) (fun t => readReg t .seq) = some 0x000000D3#32 := by decide
theorem test_quant_alg3 : after (exec .quant { ready 1 1 3 with alg := .reserved }) (fun t => readReg t .errcode) = some 0x32#32 := by
  decide
theorem test_pack : after (exec .pack (ready 1 1 3)) (fun t => (t.curOp, t.wait)) = some (.packOp, .engine) := by decide
/-- 44_transfer.md R204, R214: the first chunk has the plane selector alone, the second the continuation bit too. -/
theorem test_xfer : after (exec .xfer packed) State.linkOut =
    some [.write [0x30#8, 0x0F#8, 0xA0#8, 0xA1#8] false, .write [0x30#8, 0xFF#8, 0xA2#8, 0xA3#8] true] := by decide
theorem test_xfer_tu_one : after (exec .xfer { packed with tu := 1 }) (fun t => (t.linkOut, readReg t .errcode)) =
    some ([.unsubscribe], 0x02#32) := by decide
theorem test_close : after (exec .close (ready 16 2 3)) (fun t => (t.linkOut, t.status.subscribed)) = some ([.unsubscribe], false) := by
  decide
/-- 41_quantizer.md R151, R152: preset 1. -/
theorem test_ldkern : after (exec .ldkern { idle with kpreset := 1 }) (fun t => (readReg t .kcfg, t.kw.toList)) =
    some (0x01020030#32, [0x07000000#32, 0x07050305#32, 0x03010305#32, 0x00010305#32]) := by decide
theorem test_ldkern_six : after (exec .ldkern { idle with kpreset := 6 }) (fun t => readReg t .errcode) = some 0x33#32 := by decide
theorem test_illegal : after (exec (.illegal 0xFF#8) idle) (fun t => (readReg t .errcode, t.status.err)) = some (0x30#32, true) := by
  decide
theorem test_init : after (exec .init idle) State.linkOut = some [.write [0x01#8] true] := by decide
theorem test_clear : after (exec .clear idle) State.linkOut = some [.write [0x02#8] true] := by decide
theorem test_refresh : after (exec .refresh idle) State.linkOut = some [.write [0x05#8] true] := by decide
/-- 45_codec.md R224. -/
theorem test_write_img : after (exec (.writeImg 0x0F#8 [0xAA#8, 0x80#8]) { idle with ilCnt := 62, chunkCnt := 1 }) State.linkOut =
    some [.write [0x30#8, 0x0F#8, 0xAA#8, 0x80#8] true] := by decide
theorem test_pin_config : refusal (exec (.pinConfig []) idle) = some (.vendorFrameNeverEmitted "PIN_CONFIG") := by decide
theorem test_sleep : refusal (exec (.sleep []) idle) = some (.vendorFrameNeverEmitted "SLEEP") := by decide
theorem test_reset : refusal (exec (.reset []) idle) = some (.vendorFrameNeverEmitted "RESET") := by decide
theorem test_config_erase : refusal (exec (.configErase []) idle) = some (.vendorFrameNeverEmitted "CONFIG_ERASE") := by decide

/-! ### Worked examples of spec/ -/

/-- 41_quantizer.md R134: (200, 30, 30) is red in tri-colour mode. -/
theorem test_nearest_red : nearestColour .tri 1 { r := 200, g := 30, b := 30 } = red := by decide
/-- 90_conflicts.md C5: (255, 0, 255) is as near to white as to red, and becomes white. -/
theorem test_nearest_tie : nearestColour .tri 1 { r := 255, g := 0, b := 255 } = white := by decide
/-- 41_quantizer.md R139: 2×1 of (100, 100, 100) with Floyd–Steinberg gives black, white. -/
theorem test_diffusion : after (onEvent .engine (quantizing .errorDiffusion .mono 2 (greys [100, 100]))) State.pix =
    some (greys [0, 255]) := by decide
/-- 41_quantizer.md R141: (128, 128, 128) is black at (0, 0) and white at (1, 0). -/
theorem test_ordered : after (onEvent .engine (quantizing .ordered .mono 2 (greys [128, 128]))) State.pix =
    some (greys [0, 255]) := by decide
/-- 42_bitplane.md R167: W, B, W, B, W, B, W, B, W gives 0xAA, 0x80. -/
theorem test_pack_nine : after (onEvent .engine (packing .mono 9 (greys [255, 0, 255, 0, 255, 0, 255, 0, 255]))) State.planeMem =
    some [(0, 0xAA#8), (1, 0x80#8)] := by decide
/-- 42_bitplane.md R165, R166: (128, 128, 128) is red: plane B has the bit, plane R has not. -/
theorem test_pack_red : after (onEvent .engine (packing .tri 1 (greys [128]))) State.planeMem =
    some [(0, 0x80#8), (1, 0x00#8)] := by decide
/-- 30_encoding.md R103: leading zeros are allowed; 65536 is too large. -/
theorem test_mtu_zeros : mtuMatch (ascii "mtu=020") = some 20#16 := by decide
theorem test_mtu_large : mtuMatch (ascii "mtu=65536") = none := by decide
/-- 30_encoding.md R104: a surrogate (0xED 0xA0) is not well formed. -/
theorem test_utf8_surrogate : utf8Ok [0xED#8, 0xA0#8, 0x80#8] = false := by decide
/-- 20_memory.md R77. -/
theorem test_pixel_write : after (onEvent (.hostWrite 0x01000004#32 0xFF030201#32) idle) State.pix =
    some [(3, 256#32), (4, 512#32), (5, 768#32)] := by decide
/-- 00_scope.md R12: a counter stays at 255. -/
theorem test_sat8Inc : sat8Inc 0#8 = 1#8 ∧ sat8Inc 254#8 = 255#8 ∧ sat8Inc 255#8 = 255#8 := by decide
/-- 60_exceptions.md R238. -/
theorem test_irq : after (exec .nop { idle with doneIe := true }) irq = some true := by decide

/-! ### Witnesses: states and operands that meet the hypotheses of each statement -/

theorem witness_DecodeEncode : params.Ok ∧ wellFormed params (.writeImg 0xFF#8 [0xAA#8]) = true ∧
    wellFormed params (.illegal 0x07#8) = true ∧ wellFormed params (.sleep []) = true := by decide

theorem witness_FramesRoundTrip : decodeFrame params [0x30#8, 0xF0#8, 0x00#8] = .ok (.writeImg 0xF0#8 [0x00#8]) := by decide

theorem witness_DecodedWords : params.opInit = 0x01#8 ∧ params.opClear = 0x02#8 ∧ params.opRefresh = 0x05#8 ∧
    params.opWriteImg = 0x30#8 ∧ params.hdrSel0 = 0x0F#8 ∧ params.hdrSel1 = 0x00#8 ∧ params.hdrCont = 0xF0#8 := by decide

theorem witness_StepRunsInstruction : idle.framer = none ∧ 8 ≤ (0x8#32).toNat ∧ (0xB#32).toNat ≤ 11 ∧
    decode idle.cfg (.command 0x05#32) = .ok .close := by decide

theorem witness_StepRunsInstruction_framer :
    { idle with framer := some [0x02#8] }.framer = some [0x02#8] ∧ decode idle.cfg (.frame [0x02#8]) = .ok .clear := by decide

theorem witness_BusyCommandDropped : (transferring .chunkAck).status.busy = true := by decide

theorem witness_NopCompletes : idle.status.busy = false ∧ (transferring .pace).status.busy = true := by decide

theorem witness_IllegalCompletes : idle.status.busy = false ∧ 7 ≤ (0xFFFFFF07#32).toNat % 256 := by decide

theorem witness_PreconditionFailures_open : (ready 16 2 3).status.busy = false ∧ (ready 16 2 3).seqState ≠ .disconnected := by
  decide

theorem witness_PreconditionFailures_image : idle.status.busy = false ∧ idle.seqState ≠ .ready ∧
    ¬(idle.seqState = .ready ∧ idle.status.resValid = true) := by decide

theorem witness_PreconditionFailures_planes : (ready 16 2 3).status.busy = false ∧ ¬((ready 16 2 3).seqState = .ready ∧
    (ready 16 2 3).status.resValid = true ∧ (ready 16 2 3).status.planesValid = true) := by decide

theorem witness_OpenAccepted : idle.status.busy = false ∧ idle.seqState = .disconnected := by decide

/-- An image state with error diffusion and the given kernel registers. -/
def kernelState (d : Half) (a : BitVec 3) : State := { ready 2 1 3 with alg := .errorDiffusion, kdiv := d, kanchor := a }

theorem witness_ComputeAccepted : (kernelState 1 4).status.busy = false ∧ (kernelState 1 4).seqState = .ready ∧
    (kernelState 1 4).status.resValid = true ∧ (kernelState 1 4).alg ≠ .reserved ∧ (kernelState 1 4).kdiv ≠ 0 ∧
    (kernelState 1 4).kanchor.toNat ≤ 4 := by decide

theorem witness_QuantChecks_alg : { ready 1 1 3 with alg := .reserved }.status.busy = false ∧
    { ready 1 1 3 with alg := .reserved }.seqState = .ready ∧ { ready 1 1 3 with alg := .reserved }.status.resValid = true ∧
    { ready 1 1 3 with alg := .reserved }.alg = .reserved := by decide

theorem witness_QuantChecks_kernel : (kernelState 0 1).alg = .errorDiffusion ∧ (kernelState 0 1).kdiv = 0 ∧
    (kernelState 0 1).status.resValid = true ∧ (kernelState 1 5).alg = .errorDiffusion ∧ 5 ≤ (kernelState 1 5).kanchor.toNat ∧
    (kernelState 1 5).seqState = .ready ∧ (kernelState 1 5).status.busy = false := by decide

/-- `packed` with the operands of XFER. -/
def sending (tu il : Half) (clear : Bool) : State := { packed with tu := tu, interleave := il, clearEn := clear }

theorem witness_XferSendsClear : (sending 2 1 true).status.busy = false ∧ (sending 2 1 true).seqState = .ready ∧
    (sending 2 1 true).status.resValid = true ∧ (sending 2 1 true).status.planesValid = true ∧
    2 ≤ (sending 2 1 true).tu.toNat ∧ (sending 2 1 true).interleave ≠ 0 ∧ (sending 2 1 true).clearEn = true := by decide

theorem witness_XferStartsPlane : (sending 2 1 false).status.busy = false ∧ (sending 2 1 false).seqState = .ready ∧
    (sending 2 1 false).status.resValid = true ∧ (sending 2 1 false).status.planesValid = true ∧
    2 ≤ (sending 2 1 false).tu.toNat ∧ (sending 2 1 false).interleave ≠ 0 ∧ (sending 2 1 false).clearEn = false ∧
    (sending 2 1 false).planeLen ≠ 0 := by decide

theorem witness_XferConfigErrors : (sending 1 0 false).status.busy = false ∧ (sending 1 0 false).seqState = .ready ∧
    (sending 1 0 false).status.resValid = true ∧ (sending 1 0 false).status.planesValid = true ∧
    (sending 1 0 false).tu.toNat ≤ 1 ∧ 2 ≤ (sending 2 0 false).tu.toNat ∧ (sending 2 0 false).interleave = 0 ∧
    (sending 2 0 false).status.planesValid = true := by decide

theorem witness_CloseStartsTeardown : (ready 16 2 3).status.busy = false ∧ (ready 16 2 3).seqState = .ready := by decide

theorem witness_LdkernLoads : idle.status.busy = false ∧
    presetTable[{ idle with kpreset := 0 }.kpreset.toNat]? = some (1, 16, [[0, 0, 7, 0, 0], [3, 5, 1, 0, 0], [0, 0, 0, 0, 0]]) ∧
    presetTable[{ idle with kpreset := 5 }.kpreset.toNat]? = some (1, 8, [[0, 0, 1, 1, 0], [1, 1, 1, 0, 0], [0, 1, 0, 0, 0]]) ∧
    6 ≤ { idle with kpreset := 6 }.kpreset.toNat := by decide

/-- One black, one grey and one white pixel, waiting for the engine. -/
def threePixels (a : Alg) : State := quantizing a .mono 3 (greys [0, 100, 255])

theorem witness_QuantPlainResult : (threePixels .plain).framer = none ∧ (threePixels .plain).curOp = .quantOp ∧
    (threePixels .plain).wait = .engine ∧ (threePixels .plain).errcode = .none ∧ (threePixels .plain).alg = .plain := by decide

theorem witness_QuantOrderedResult : (threePixels .ordered).framer = none ∧ (threePixels .ordered).curOp = .quantOp ∧
    (threePixels .ordered).wait = .engine ∧ (threePixels .ordered).errcode = .none ∧ (threePixels .ordered).alg = .ordered := by
  decide

/-- Did the pass go on? -/
def wentOn : Pass → Bool
  | .going _ => true
  | .overflowed _ => false

theorem witness_DiffusionStep : 2 < (threePixels .errorDiffusion).resW.toNat ∧ 0 < (threePixels .errorDiffusion).resH.toNat ∧
    wentOn (diffusePixel (0 * (threePixels .errorDiffusion).resW.toNat + 2) (threePixels .errorDiffusion)) = true := by decide

/-- A state whose accumulator 0 holds a given value. -/
def accState (v : BitVec 32) : State := { idle with pix := [(0, v)] }

theorem witness_AccumulatorUpdateExact :
    (readAccumulator (accState 0x7FFFFFFE#32) 0).toInt + 1 = 2147483647 ∧
    (readAccumulator (accState 0x80000001#32) 0).toInt + (-1) = -2147483648 ∧
    2147483647 < (readAccumulator (accState 0x7FFFFFFF#32) 0).toInt + 1 ∧
    (readAccumulator (accState 0x80000000#32) 0).toInt + (-1) < -2147483648 := by decide

/-- Three pixels of which the second receives more than its accumulator can hold: weight 255 and divisor 1 to the right
(the kernel of 95_test_vectors.md T-E9). -/
def overflowing : State :=
  { quantizing .errorDiffusion .mono 3 [(0, 32512#32), (1, 32512#32), (2, 32512#32), (3, 0x7FFFFFFF#32)] with
    kdiv := 1, kanchor := 1, kw := #v[0x00FF0000#32, 0#32, 0#32, 0#32] }

/-- 41_quantizer.md R138: the first update overflows, and the pixel's own colour has been written. -/
theorem witness_AccumulatorUpdateExact_pixel : 0 < overflowing.resW.toNat ∧ 0 < overflowing.resH.toNat ∧
    wentOn (diffusePixel (0 * overflowing.resW.toNat + 0) overflowing) = false ∧
    (pixelUpdates overflowing 0 0)[0]? = some (3, 8290560) := by decide

theorem witness_QuantDiffusionOutcome_overflow : overflowing.framer = none ∧ overflowing.curOp = .quantOp ∧
    overflowing.wait = .engine ∧ overflowing.errcode = .none ∧ overflowing.alg = .errorDiffusion ∧
    after (onEvent .engine overflowing) (fun t => (readReg t .errcode, t.pix)) =
      some (0x40#32, [(0, 0#32), (1, 0#32), (2, 0#32), (3, 0x7FFFFFFF#32)]) := by decide

theorem witness_QuantDiffusionOutcome : (threePixels .errorDiffusion).framer = none ∧
    (threePixels .errorDiffusion).curOp = .quantOp ∧ (threePixels .errorDiffusion).wait = .engine ∧
    (threePixels .errorDiffusion).errcode = .none ∧ (threePixels .errorDiffusion).alg = .errorDiffusion := by decide

/-- A black and a white pixel, waiting for ordered dithering with the largest amplitude of the statement. -/
def twoColours : State := { quantizing .ordered .mono 2 (greys [0, 255]) with amp := 254 }

theorem witness_QuantIdempotent : twoColours.framer = none ∧ twoColours.curOp = .quantOp ∧ twoColours.wait = .engine ∧
    twoColours.errcode = .none ∧ twoColours.alg = .ordered ∧ twoColours.amp.toNat ≤ 254 ∧
    ∀ p < twoColours.resW.toNat * twoColours.resH.toNat, ∃ c ∈ palette twoColours.mode, readPixel twoColours p = scaledColour c := by
  decide

theorem witness_PackResult : (packing .tri 9 (greys [128])).framer = none ∧ (packing .tri 9 (greys [128])).curOp = .packOp ∧
    (packing .tri 9 (greys [128])).wait = .engine ∧ (packing .tri 9 (greys [128])).errcode = .none := by decide

theorem witness_RaiseErrorEntry : errClass .accOverflow = .localError ∧ errClass .cfgResolution = .sessionError ∧
    errClass .linkSubscribe = .sessionError ∧ errClass .linkTeardown = .teardownError := by decide

theorem witness_OpenResponses : (opening .connecting .connect false).framer = none ∧
    (opening .connecting .connect false).wait = .connect ∧ (opening .connecting .subscribe false).wait = .subscribe := by decide

theorem witness_NegotiationTimer : (negotiating .initAck true true).framer = none ∧
    (negotiating .initAck true true).wait = .initAck ∧ (negotiating .initAck true true).status.cfgRcvd = true ∧
    (negotiating .initAck true true).status.mtuRcvd = true ∧ (negotiating .initAck true false).status.mtuRcvd = false ∧
    { negotiating .initAck false false with tNeg := 0 }.tNeg = 0 ∧ (negotiating .negotiate true false).wait = .negotiate ∧
    1 ≤ (negotiating .negotiate true false).timer.toNat := by decide

/-- NEGOTIATING with an explicit resolution and a device resolution. -/
def resolving (ew eh dw dh : Half) (dev : Bool) : State :=
  { negotiating .initAck true true with
    expW := ew, expH := eh, devW := dw, devH := dh
    status := { (negotiating .initAck true true).status with devResValid := dev } }

theorem witness_ResolutionPolicy_explicit : (resolving 10 10 1 1 true).errcode = .none ∧
    (resolving 10 10 1 1 true).expW ≠ 0 ∧ (resolving 10 10 1 1 true).expH ≠ 0 ∧
    10 * 10 ≤ (resolving 10 10 1 1 true).cfg.pixCap ∧ 2 * ((10 + 7) / 8 * 10) ≤ (resolving 10 10 1 1 true).cfg.planeCap ∧
    ¬(101 * 1 ≤ (resolving 101 1 1 1 true).cfg.pixCap) := by decide

theorem witness_ResolutionPolicy_device : (resolving 0 10 1 50 true).errcode = .none ∧ (resolving 0 10 1 50 true).expW = 0 ∧
    (resolving 0 10 1 50 true).status.devResValid = true ∧ 1 * 50 ≤ (resolving 0 10 1 50 true).cfg.pixCap ∧
    2 * ((1 + 7) / 8 * 50) ≤ (resolving 0 10 1 50 true).cfg.planeCap ∧
    ¬(2 * ((1 + 7) / 8 * 51) ≤ (resolving 0 10 1 51 true).cfg.planeCap) ∧
    (resolving 10 0 0 0 false).expH = 0 ∧ (resolving 10 0 0 0 false).status.devResValid = false := by decide

theorem witness_ConfigNotification : (negotiating .initAck false false).framer = none ∧
    (negotiating .initAck false false).status.subscribed = true ∧ (negotiating .initAck false false).status.cfgRcvd = false ∧
    (negotiating .initAck false false).status.mtuRcvd = false ∧ 12 ≤ (List.replicate 12 0x05#8).length ∧
    (List.replicate 11 0x05#8).length < 12 := by decide

theorem witness_MtuNotification : (negotiating .negotiate true false).framer = none ∧
    (negotiating .negotiate true false).status.subscribed = true ∧ (negotiating .negotiate true false).status.cfgRcvd = true ∧
    (negotiating .negotiate true false).status.mtuRcvd = false ∧ (negotiating .negotiate true false).seqState = .negotiating ∧
    mtuMatch (ascii "mtu=65535") = some 65535#16 := by decide

theorem witness_LaterNotification : (negotiating .negotiate true false).framer = none ∧
    (negotiating .negotiate true false).status.subscribed = true ∧ (negotiating .negotiate true false).status.cfgRcvd = true ∧
    (negotiating .negotiate true false).status.mtuRcvd = false ∧ utf8Ok [0xFF#8] = false ∧
    utf8Ok (ascii "mtu=65536") = true ∧ mtuMatch (ascii "mtu=65536") = none ∧
    { ready 16 2 3 with status := { (ready 16 2 3).status with cfgRcvd := true } }.seqState ≠ .negotiating := by decide

theorem witness_MtuText : mtuMatch (ascii "mtu=0") = some 0#16 ∧ mtuMatch (ascii "mtu=65535") = some 65535#16 := by decide

theorem witness_TeardownResponses : (closing .unsubscribe).framer = none ∧ (closing .unsubscribe).wait = .unsubscribe ∧
    (closing .disconnect).framer = none ∧ (closing .disconnect).wait = .disconnect := by decide

/-! Each part of the invariant is decidable on a given state. -/

theorem inv_clearAck : Invariant (transferring .clearAck) := by
  unfold Invariant ControlOk TimerOk FlagsOk MemoryOk CapacityOk SessionOk TransferOk PlaneOk
  refine ⟨?_, ?_, ?_, ?_, ?_, ?_, ?_⟩ <;> decide

theorem inv_settleClear : Invariant (transferring .settleClear) := by
  unfold Invariant ControlOk TimerOk FlagsOk MemoryOk CapacityOk SessionOk TransferOk PlaneOk
  refine ⟨?_, ?_, ?_, ?_, ?_, ?_, ?_⟩ <;> decide

theorem inv_chunkAck : Invariant (transferring .chunkAck) := by
  unfold Invariant ControlOk TimerOk FlagsOk MemoryOk CapacityOk SessionOk TransferOk PlaneOk
  refine ⟨?_, ?_, ?_, ?_, ?_, ?_, ?_⟩ <;> decide

theorem inv_pace : Invariant (transferring .pace) := by
  unfold Invariant ControlOk TimerOk FlagsOk MemoryOk CapacityOk SessionOk TransferOk PlaneOk
  refine ⟨?_, ?_, ?_, ?_, ?_, ?_, ?_⟩ <;> decide

theorem inv_connect : Invariant (opening .connecting .connect false) := by
  unfold Invariant ControlOk TimerOk FlagsOk MemoryOk CapacityOk SessionOk TransferOk PlaneOk
  refine ⟨?_, ?_, ?_, ?_, ?_, ?_, ?_⟩ <;> decide

theorem witness_ClearDelay : (Invariant (transferring .clearAck) ∧ (transferring .clearAck).wait = .clearAck) ∧
    Invariant (transferring .settleClear) ∧ (transferring .settleClear).wait = .settleClear :=
  ⟨⟨inv_clearAck, rfl⟩, inv_settleClear, rfl⟩

theorem witness_ChunkAcknowledged : (Invariant (transferring .chunkAck) ∧ (transferring .chunkAck).wait = .chunkAck) ∧
    Invariant (transferring .pace) ∧ (transferring .pace).wait = .pace :=
  ⟨⟨inv_chunkAck, rfl⟩, inv_pace, rfl⟩

theorem witness_RefreshDelay : (refreshing .refreshAck).framer = none ∧ (refreshing .refreshAck).wait = .refreshAck ∧
    (refreshing .settleRefresh).framer = none ∧ (refreshing .settleRefresh).wait = .settleRefresh ∧
    1 ≤ (refreshing .settleRefresh).timer.toNat := by decide

theorem witness_ChunkCoverage : (transferring .chunkAck).cs ≠ 0 ∧ 0 + 1 < chunkTotal (transferring .chunkAck) ∧
    1 + 1 = chunkTotal (transferring .chunkAck) := by decide

theorem witness_AcknowledgedCount : (transferring .chunkAck).interleave ≠ 0 ∧ chunkTotal (transferring .chunkAck) = 2 := by
  decide

theorem witness_OneOutstandingRequest : idle.framer = none ∧ ∃ t, step (deliver (.hostWrite 0x8#32 0x01#32) idle) = .next t ∧
    t.linkOut = [.connect] := ⟨rfl, _, rfl, rfl⟩

theorem witness_OneOutstandingRequest_waiting : Invariant (transferring .chunkAck) ∧
    awaitsResponse (transferring .chunkAck).wait = true ∧ (∀ ok maxpl, Event.tick ≠ .linkRsp ok maxpl) ∧
    ∃ t, step (deliver .tick (transferring .chunkAck)) = .next t :=
  ⟨inv_chunkAck, rfl, by intros; simp, _, rfl⟩

/-- The invariant does not depend on the events that wait. -/
theorem inv_deliver (e : Event) (s : State) (h : Invariant s) : Invariant (deliver e s) := h

theorem witness_LegalRequests : Invariant (deliver .tick (transferring .pace)) ∧
    ∃ t, step (deliver .tick (transferring .pace)) = .next t :=
  ⟨inv_deliver _ _ inv_pace, _, rfl⟩

theorem witness_UnexpectedInputsIgnored : idle.framer = none ∧
    idle.wait ∉ [Wait.negotiate, .settleClear, .pace, .settleRefresh] ∧
    idle.wait ∉ [Wait.connect, .subscribe, .initAck, .clearAck, .chunkAck, .refreshAck, .unsubscribe, .disconnect] ∧
    idle.wait ≠ .engine ∧ idle.status.subscribed = false := by decide

theorem witness_AddressMap : params.Ok ∧ (0x0#32).toNat / 4 = (0x3#32).toNat / 4 ∧ 4 * 24 < params.planeCap ∧
    99 < params.pixCap ∧ hostTarget params 0x00010060#32 = .planeWord 24 ∧ hostTarget params 0x0100018C#32 = .pixel 99 ∧
    hostTarget params 0x000000BF#32 = .reg (.bayer 15) := by decide

/-- 10_state.md R46, 20_memory.md R75: the first and last address of each range that reaches nothing. -/
theorem witness_AddressMap_unmapped :
    [0x7C#32, 0x7F#32, 0xC0#32, 0xFFFF#32, 0x10064#32, 0xFFFFFF#32, 0x1000190#32, 0xFFFFFFFF#32].all
      (fun a => hostTarget params a = .unmapped) = true := by decide

theorem witness_RegisterWrites : idle.framer = none ∧ idle.status.busy = false ∧ Reg.kcfg ≠ .cmd ∧ Reg.kcfg ≠ .status ∧
    storedBits .kcfg ≠ 0 ∧ storedBits .seq = 0 ∧ Reg.bayer 15 ≠ .kw 3 ∧ hostTarget idle.cfg 0x68#32 = .reg .kcfg ∧
    hostTarget idle.cfg 0x1B#32 = .reg .seq ∧ hostTarget idle.cfg 0x10000#32 = .planeWord 0 ∧
    hostTarget idle.cfg 0x7C#32 = .unmapped := by decide

theorem witness_StatusWriteOneToClear : idle.framer = none ∧ (0x0000001E#32).getLsbD 1 = true ∧
    (0x0000001E#32).getLsbD 2 = true := by decide

theorem witness_BusyWrites : (transferring .pace).framer = none ∧ (transferring .pace).status.busy = true ∧
    hostTarget params 0x4#32 ∉ [Target.reg .cmd, .reg .status, .reg .ie] ∧ hostTarget params 0x14#32 = .reg .ie := by decide

theorem witness_HostReads : idle.framer = none ∧ hostTarget idle.cfg 0x0#32 = .reg .id ∧
    hostTarget idle.cfg 0x7C#32 = .unmapped ∧ hostTarget idle.cfg 0x00010060#32 = .planeWord 24 ∧
    hostTarget idle.cfg 0x01000000#32 = .pixel 0 ∧ idle.status.busy = false ∧ (transferring .pace).status.busy = true := by decide

theorem witness_PixelWrite : idle.framer = none ∧ idle.status.busy = false ∧ hostTarget idle.cfg 0x0100018C#32 = .pixel 99 := by
  decide

theorem witness_ResetValues : (transferring .chunkAck).framer = none := by decide

theorem witness_StepTotal : (transferring .chunkAck).framer = none := by decide

theorem witness_MemoryWriters : idle.framer = none ∧ Event.hostWrite 0x01000000#32 0#32 ≠ .resetInput ∧
    ∃ t, step (deliver (.hostWrite 0x01000000#32 0#32) idle) = .next t ∧ t.pix ≠ idle.pix :=
  ⟨rfl, by decide, _, rfl, by decide⟩

theorem witness_MemoryWriters_planes : (packing .mono 1 (greys [255])).framer = none ∧
    ∃ t, step (deliver .engine (packing .mono 1 (greys [255]))) = .next t ∧ t.planeMem ≠ (packing .mono 1 (greys [255])).planeMem :=
  ⟨rfl, _, rfl, by decide⟩

theorem witness_SessionParametersFixed : ControlOk (transferring .pace) ∧ Event.tick ≠ .resetInput ∧
    (transferring .pace).seqState ∈ [SeqState.ready, .transferring, .refreshing, .teardown] ∧
    ∃ t, step (deliver .tick (transferring .pace)) = .next t :=
  ⟨inv_pace.1, by decide, by decide, _, rfl⟩

/-! OPEN before its end in READY, and before its end after teardown. -/

theorem inv_openResolving : Invariant (resolving 10 10 0 0 false) := by
  unfold Invariant ControlOk TimerOk FlagsOk MemoryOk CapacityOk SessionOk TransferOk PlaneOk
  refine ⟨?_, ?_, ?_, ?_, ?_, ?_, ?_⟩ <;> decide

theorem inv_openTornDown : Invariant { opening .teardown .disconnect false with errcode := .linkConnect } := by
  unfold Invariant ControlOk TimerOk FlagsOk MemoryOk CapacityOk SessionOk TransferOk PlaneOk
  refine ⟨?_, ?_, ?_, ?_, ?_, ?_, ?_⟩ <;> decide

theorem witness_OpenOutcome_ready : Invariant (resolving 10 10 0 0 false) ∧ (resolving 10 10 0 0 false).curOp = .openOp ∧
    Event.linkRsp true 0 ≠ .resetInput ∧
    ∃ t, step (deliver (.linkRsp true 0) (resolving 10 10 0 0 false)) = .next t ∧ t.curOp ≠ .openOp :=
  ⟨inv_openResolving, rfl, by decide, _, rfl, by decide⟩

theorem witness_OpenOutcome_failed : Invariant { opening .teardown .disconnect false with errcode := .linkConnect } ∧
    ∃ t, step (deliver (.linkRsp true 0) { opening .teardown .disconnect false with errcode := .linkConnect }) = .next t ∧
      t.curOp ≠ .openOp :=
  ⟨inv_openTornDown, _, rfl, by decide⟩

theorem witness_ControlKept : ControlOk (opening .connecting .connect false) ∧
    ∃ t, step (deliver (.linkRsp true 20) (opening .connecting .connect false)) = .next t :=
  ⟨inv_connect.1, _, rfl⟩

theorem witness_InvKept : Invariant (deliver (.linkRsp true 0) (transferring .chunkAck)) ∧
    ∃ t, step (deliver (.linkRsp true 0) (transferring .chunkAck)) = .next t :=
  ⟨inv_deliver _ _ inv_chunkAck, _, rfl⟩

end Sys2Proof.Tests
end

section
/-! The host address map (10_state.md R22, 20_memory.md R70 to R75): what an address reaches. -/

namespace Sys2Proof.Machine

variable {p : Config.Params} {a : Word}

/-! ### The register table -/

theorem mem_of_lookupTable {α : Type} {t : List (Nat × α)} {n : Nat} {v : α} (h : lookupTable t n = some v) :
    (n, v) ∈ t := by
  induction t with
  | nil => cases h
  | cons c rest ih =>
    obtain ⟨k, u⟩ := c
    unfold lookupTable at h
    split at h
    · rename_i hk
      cases h
      exact hk ▸ List.mem_cons_self
    · exact List.mem_cons_of_mem _ (ih h)

/-- Every register is found at its own address, which is a word address below 0xC0 and not the reserved offset 0x7C
(10_state.md R22, R46). -/
theorem regAddress_spec (r : Reg) :
    lookupTable regTable (regAddress r).toNat = some r ∧ (regAddress r).toNat < 0xC0 ∧ (regAddress r).toNat ≠ 0x7C ∧
      (regAddress r).toNat % 4 = 0 := by
  cases r with
  | epdcfg k => revert k; decide
  | kw k => revert k; decide
  | bayer k => revert k; decide
  | _ => decide

/-- Every entry stands at its register's address. -/
theorem regTable_entry : ∀ c ∈ regTable, c.1 = (regAddress c.2).toNat := by decide

/-! ### The regions -/

/-- An address reaches a register if it is the register's, up to bits [1:0] (20_memory.md R71, R74). -/
theorem hostTarget_reg_iff (r : Reg) : hostTarget p a = .reg r ↔ 4 * (a.toNat / 4) = (regAddress r).toNat := by
  obtain ⟨hfound, hlow, _⟩ := regAddress_spec r
  unfold hostTarget
  dsimp only
  split
  · split
    · rename_i r' hl
      refine ⟨fun h => ?_, fun h => ?_⟩
      · obtain rfl := Target.reg.inj h
        exact regTable_entry _ (mem_of_lookupTable hl)
      · rw [h, hfound] at hl
        exact congrArg Target.reg (Option.some.inj hl).symm
    · rename_i hl
      refine ⟨fun h => (by cases h), fun h => ?_⟩
      rw [h, hfound] at hl
      cases hl
  · refine ⟨fun h => ?_, fun h => by omega⟩
    split at h
    · cases h
    · split at h <;> cases h

/-- An address reaches a plane word within the capacity, and no other address does (20_memory.md R72). -/
theorem hostTarget_planeWord_iff (j : Nat) :
    hostTarget p a = .planeWord j ↔ a.toNat / 4 = 0x4000 + j ∧ 4 * j < p.planeCap := by
  unfold hostTarget ceilDiv
  dsimp only
  split
  · refine ⟨fun h => ?_, fun h => by omega⟩
    split at h <;> cases h
  · split
    · refine ⟨fun h => ?_, fun h => congrArg Target.planeWord (by omega)⟩
      have hj := Target.planeWord.inj h
      omega
    · refine ⟨fun h => ?_, fun h => by omega⟩
      split at h <;> cases h

/-- An address reaches a pixel within the capacity that the plane window leaves free, and no other address does
(20_memory.md R73). -/
theorem hostTarget_pixel_iff (q : Nat) :
    hostTarget p a = .pixel q ↔
      a.toNat / 4 = 0x400000 + q ∧ q < p.pixCap ∧ 0x4000 + (p.planeCap + 3) / 4 ≤ 0x400000 + q := by
  unfold hostTarget ceilDiv
  dsimp only
  split
  · refine ⟨fun h => ?_, fun h => by omega⟩
    split at h <;> cases h
  · split
    · exact ⟨fun h => (by cases h), fun h => by omega⟩
    · split
      · refine ⟨fun h => ?_, fun h => congrArg Target.pixel (by omega)⟩
        have hq := Target.pixel.inj h
        omega
      · exact ⟨fun h => (by cases h), fun h => by omega⟩

/-- What reaches no register, no plane word and no pixel is unmapped (20_memory.md R75). -/
theorem hostTarget_unmapped (hr : ∀ r, hostTarget p a ≠ .reg r) (hj : ∀ j, hostTarget p a ≠ .planeWord j)
    (hq : ∀ q, hostTarget p a ≠ .pixel q) : hostTarget p a = .unmapped := by
  cases h : hostTarget p a with
  | reg r => exact absurd h (hr r)
  | planeWord j => exact absurd h (hj j)
  | pixel q => exact absurd h (hq q)
  | unmapped => rfl

theorem hostTarget_congr {b : Word} (h : a.toNat / 4 = b.toNat / 4) : hostTarget p a = hostTarget p b := by
  unfold hostTarget
  rw [h]

/-- Settles O47, from the `↔` of each region. -/
theorem addressMap : Obligations.AddressMap := by
  intro p hp
  obtain ⟨_, hpix, _, hplane, _⟩ := hp
  refine ⟨fun a b h => hostTarget_congr h, fun r => ?_, fun j hj => ?_, fun q hq => ?_,
    fun a r h => (hostTarget_reg_iff r).1 h, fun a j h => (hostTarget_planeWord_iff j).1 h, fun a q h => ?_,
    fun a ha => hostTarget_unmapped (fun r h => ?_) (fun j h => ?_) (fun q h => ?_)⟩
  · obtain ⟨_, _, _, haligned⟩ := regAddress_spec r
    exact (hostTarget_reg_iff r).2 (by omega)
  · refine (hostTarget_planeWord_iff j).2 ⟨?_, hj⟩
    rw [BitVec.toNat_ofNat]
    omega
  · refine (hostTarget_pixel_iff q).2 ⟨?_, hq, by omega⟩
    rw [BitVec.toNat_ofNat]
    omega
  · obtain ⟨haddr, hlt, _⟩ := (hostTarget_pixel_iff q).1 h
    exact ⟨haddr, hlt⟩
  · have haddr := (hostTarget_reg_iff r).1 h
    obtain ⟨_, hlow, hreserved, _⟩ := regAddress_spec r
    omega
  · obtain ⟨haddr, hlt⟩ := (hostTarget_planeWord_iff j).1 h
    omega
  · obtain ⟨haddr, hlt, _⟩ := (hostTarget_pixel_iff q).1 h
    omega

/-! ### Writes to `CMD` (40_command.md R120) -/

theorem onHostWrite_cmd {s : State} {addr : Word} (h : hostTarget s.cfg addr = .reg .cmd) (d : Word) :
    onHostWrite addr d s = exec (decodeCommand d) s := by
  unfold onHostWrite
  rw [h]
  rfl

/-- Settles O5: addresses 8 to 11 are those of `CMD`. -/
theorem stepRunsInstruction : Obligations.StepRunsInstruction := by
  refine ⟨fun s addr data i hframer hlow hhigh hdec => ?_, fun s bytes i hframer hdec => ?_⟩
  · have hcmd : hostTarget s.cfg addr = .reg .cmd := by
      rw [hostTarget_reg_iff, show (regAddress .cmd).toNat = 8 by decide]
      omega
    obtain rfl := Except.ok.inj hdec
    rw [step_deliver s _ hframer]
    exact onHostWrite_cmd hcmd data
  · unfold step takeNext
    rw [hframer]
    show runFramer bytes _ = _
    unfold runFramer
    rw [show ({ s with framer := none } : State).cfg = s.cfg from rfl, hdec]

end Sys2Proof.Machine
end

section
/-! Host writes to registers (10_state.md R22 to R46), the write-one-to-clear of `STATUS` and the interrupt output
(R27, 60_exceptions.md R238), and the registers after reset (70_reset_and_hazards.md R262). -/

namespace Sys2Proof.Machine

variable {s : State}

/-! ### The fields of a word -/

theorem getElem_bitAt (b : Bool) (i j : Nat) (hj : j < 32) : (bitAt b i)[j] = (b && decide (i = j)) := by
  unfold bitAt
  cases b with
  | false => simp
  | true =>
    simp only [if_true, BitVec.getElem_shiftLeft, Bool.true_and]
    by_cases hij : i = j <;> simp [hij]
    omega

theorem modeBit_modeOfBit (b : Bool) : modeBit (modeOfBit b) = b := by cases b <;> rfl

theorem algField_algOfField : ∀ f, algField (algOfField f) = f := by decide

/-- `CTRL` reads back its four stored bits (10_state.md R24). -/
theorem ctrl_readback (d : Word) :
    bitAt (modeBit (modeOfBit (d.getLsbD 0))) 0 ||| ((algField (algOfField (d.extractLsb' 1 2))).setWidth 32 <<< 1) |||
      bitAt (d.getLsbD 3) 3 = d &&& 0x0000000F#32 := by
  rw [modeBit_modeOfBit, algField_algOfField]
  refine BitVec.eq_of_getLsbD_eq fun i hi => ?_
  interval_cases i <;> simp [getElem_bitAt]

/-- `IE` reads back its two stored bits (10_state.md R29). -/
theorem ie_readback (d : Word) : bitAt (d.getLsbD 0) 0 ||| bitAt (d.getLsbD 1) 1 = d &&& 0x00000003#32 := by
  refine BitVec.eq_of_getLsbD_eq fun i hi => ?_
  interval_cases i <;> simp [getElem_bitAt]

theorem getLsbD_halves (lo hi : Half) (i : Nat) :
    (halves lo hi).getLsbD i = if i < 16 then lo.getLsbD i else hi.getLsbD (i - 16) := BitVec.getLsbD_append

theorem halves_readback (d : Word) : halves (d.extractLsb' 0 16) (d.extractLsb' 16 16) = d &&& 0xFFFFFFFF#32 := by
  rw [show 0xFFFFFFFF#32 = BitVec.allOnes 32 from rfl, BitVec.and_allOnes]
  refine BitVec.eq_of_getLsbD_eq fun i hi => ?_
  rw [getLsbD_halves]
  split
  · simp [*]
  · rw [BitVec.getLsbD_extractLsb', Nat.add_sub_cancel' (by omega)]
    simp
    omega

theorem lowHalf_readback (d : Word) : (d.extractLsb' 0 16).setWidth 32 = d &&& 0x0000FFFF#32 := by
  refine BitVec.eq_of_getLsbD_eq fun i hi => ?_
  interval_cases i <;> simp

theorem lowByte_readback (d : Word) : (d.extractLsb' 0 8).setWidth 32 = d &&& 0x000000FF#32 := by
  refine BitVec.eq_of_getLsbD_eq fun i hi => ?_
  interval_cases i <;> simp

/-- `KCFG` reads back its three fields (10_state.md R43). -/
theorem kcfg_readback (d : Word) :
    (d.extractLsb' 0 16).setWidth 32 ||| ((d.extractLsb' 16 3).setWidth 32 <<< 16) |||
      ((d.extractLsb' 24 4).setWidth 32 <<< 24) = d &&& 0x0F07FFFF#32 := by
  refine BitVec.eq_of_getLsbD_eq fun i hi => ?_
  interval_cases i <;> simp

/-! ### Register writes -/

/-- A register other than `CMD` and `STATUS` reads back the stored bits; a read-only one keeps its value. -/
theorem readReg_writeReg_same (d : Word) (s : State) (r : Reg) (hr : r ≠ .status) :
    readReg (writeReg d s r) r = if storedBits r = 0 then readReg s r else d &&& storedBits r := by
  cases r with
  | ctrl => exact ctrl_readback d
  | ie => exact ie_readback d
  | expRes => exact halves_readback d
  | interleave => exact lowHalf_readback d
  | amp => exact lowByte_readback d
  | tNeg => exact lowHalf_readback d
  | tClear => exact lowHalf_readback d
  | tRefresh => exact lowHalf_readback d
  | tPace => exact lowHalf_readback d
  | kcfg => exact kcfg_readback d
  | kw k =>
    rw [if_neg (by revert k; decide)]
    simp [readReg, writeReg, storedBits, kwMask, BitVec.and_assoc]
  | bayer k => simp [readReg, writeReg, storedBits, bayerMask, BitVec.and_assoc]
  | status => exact absurd rfl hr
  | _ => rfl

/-- A register write leaves every other register as it reads. -/
theorem readReg_writeReg_other (d : Word) (s : State) {r r' : Reg} (h : r' ≠ r) :
    readReg (writeReg d s r) r' = readReg s r' := by
  cases r with
  | kw k =>
    cases r' with
    | kw k' =>
      have hk : (k : Nat) ≠ k' := fun he => h (congrArg Reg.kw (Fin.ext he.symm))
      simp [readReg, writeReg, Vector.getElem_set_ne, hk]
    | _ => simp [readReg, writeReg, ieWord, seqWord]
  | bayer k =>
    cases r' with
    | bayer k' =>
      have hk : (k : Nat) ≠ k' := fun he => h (congrArg Reg.bayer (Fin.ext he.symm))
      simp [readReg, writeReg, Vector.getElem_set_ne, hk]
    | _ => simp [readReg, writeReg, ieWord, seqWord]
  | _ => cases r' <;> simp_all [readReg, writeReg, ieWord, seqWord]

/-- A write to a read-only register has no effect at all. -/
theorem writeReg_readOnly (d : Word) (s : State) {r : Reg} (hr : r ≠ .status) (h : storedBits r = 0) :
    writeReg d s r = s := by
  cases r with
  | kw k => exact absurd h (by revert k; decide)
  | status => exact absurd rfl hr
  | bayer k => simp [storedBits] at h
  | _ => simp_all [storedBits, writeReg]

/-- A register write changes nothing but the writable registers. -/
theorem writeReg_writable_only (d : Word) (s : State) {r : Reg} (hr : r ≠ .status) :
    writeReg d s r =
      { s with
        mode := (writeReg d s r).mode, alg := (writeReg d s r).alg, clearEn := (writeReg d s r).clearEn
        doneIe := (writeReg d s r).doneIe, errIe := (writeReg d s r).errIe
        expW := (writeReg d s r).expW, expH := (writeReg d s r).expH
        interleave := (writeReg d s r).interleave, amp := (writeReg d s r).amp
        tNeg := (writeReg d s r).tNeg, tClear := (writeReg d s r).tClear
        tRefresh := (writeReg d s r).tRefresh, tPace := (writeReg d s r).tPace
        kdiv := (writeReg d s r).kdiv, kanchor := (writeReg d s r).kanchor, kpreset := (writeReg d s r).kpreset
        kw := (writeReg d s r).kw, bayer := (writeReg d s r).bayer } := by
  cases r with
  | status => exact absurd rfl hr
  | _ => rfl

/-- A host write that reaches a register other than `CMD` and is taken. -/
theorem onHostWrite_reg {addr : Word} {r : Reg} (h : hostTarget s.cfg addr = .reg r) (hcmd : r ≠ .cmd)
    (hb : s.status.busy = true → writableWhileBusy r = true) (d : Word) :
    onHostWrite addr d s = .next (writeReg d s r) := by
  unfold onHostWrite
  rw [h]
  dsimp only
  rw [if_neg hcmd, if_neg fun ⟨hbusy, hw⟩ => by simp [hb hbusy] at hw]

/-- Settles O48. -/
theorem registerWrites : Obligations.RegisterWrites := by
  intro s addr d hframer hb
  rw [step_deliver s _ hframer]
  refine ⟨fun r hr hcmd hst => ?_, fun j hj => ?_, fun hun => ?_⟩
  · exact ⟨writeReg d s r, onHostWrite_reg hr hcmd (by simp [hb]) d, readReg_writeReg_same d s r hst,
      fun r' hne => readReg_writeReg_other d s hne, writeReg_readOnly d s hst, writeReg_writable_only d s hst⟩
  · simp only [onEvent, onHostWrite, hj]
  · simp only [onEvent, onHostWrite, hun]

/-! ### STATUS and IRQ (10_state.md R27, 60_exceptions.md R238) -/

/-- Bits 1 to 4 of `STATUS` are cleared where the data bit is 1; every other bit stays. -/
theorem statusWord_statusClear (d : Word) (f : Status) :
    statusWord (statusClear d f) = statusWord f &&& ~~~(d &&& 0x0000001E#32) := by
  refine BitVec.eq_of_getLsbD_eq fun i hi => ?_
  unfold statusWord statusClear
  interval_cases i <;> simp [getElem_bitAt]

/-- Settles O49. -/
theorem statusWriteOneToClear : Obligations.StatusWriteOneToClear := by
  refine ⟨fun s => ?_, fun s d hframer => ?_⟩
  · simp [irq, readReg, statusWord, ieWord, getElem_bitAt]
  · have hreg : hostTarget s.cfg (regAddress .status) = .reg .status := (hostTarget_reg_iff .status).2 (by decide)
    rw [step_deliver s _ hframer]
    refine ⟨writeReg d s .status, onHostWrite_reg hreg (by simp) (fun _ => rfl) d, rfl,
      statusWord_statusClear d s.status, fun hdone herr => ?_⟩
    simp [irq, writeReg, statusClear, hdone, herr]

/-! ### Reset (70_reset_and_hazards.md R260 to R262) -/

theorem readReg_reset (r : Reg) : readReg State.reset r = resetWord r := by
  cases r with
  | epdcfg k => revert k; decide
  | kw k => revert k; decide
  | bayer k => revert k; decide
  | _ => decide

/-- The registers read as after power-on. -/
theorem readReg_onReset (s : State) (r : Reg) : readReg (onReset s) r = resetWord r := by
  rw [← readReg_reset r]
  cases r <;> rfl

/-- Settles O53. -/
theorem resetValues : Obligations.ResetValues := by
  refine ⟨readReg_reset, by decide, rfl, fun s hframer => ?_⟩
  rw [step_deliver s _ hframer]
  exact ⟨onReset s, rfl, readReg_onReset s, rfl, rfl, rfl, rfl, rfl, rfl, rfl, rfl, rfl, rfl, rfl⟩

end Sys2Proof.Machine
end

section
/-! The invariant taken apart: what holds of a command in progress, whatever its wait point, and the few ways a rule
of the sequencer ends an event. `ControlOk` and `Invariant` are proved together: a statement about `Legal full` is about
`Invariant` where `full` holds and about `ControlOk` alone where it does not. -/

namespace Sys2Proof.Machine

/-! ### Positions (43_session.md R192) -/

/-- The legal positions as a list: command, session state, wait point. -/
def legalPositions : List (CurOp × SeqState × Wait) :=
  [(.none, .disconnected, .idle), (.none, .ready, .idle), (.openOp, .connecting, .connect),
   (.openOp, .connecting, .subscribe), (.openOp, .negotiating, .initAck), (.openOp, .negotiating, .negotiate),
   (.openOp, .teardown, .unsubscribe), (.openOp, .teardown, .disconnect), (.quantOp, .ready, .engine),
   (.packOp, .ready, .engine), (.xferOp, .transferring, .clearAck), (.xferOp, .transferring, .settleClear),
   (.xferOp, .transferring, .chunkAck), (.xferOp, .transferring, .pace), (.xferOp, .refreshing, .refreshAck),
   (.xferOp, .refreshing, .settleRefresh), (.xferOp, .teardown, .unsubscribe), (.xferOp, .teardown, .disconnect),
   (.closeOp, .teardown, .unsubscribe), (.closeOp, .teardown, .disconnect)]

theorem mem_legalPositions {op : CurOp} {q : SeqState} {w : Wait} (h : legalPosition op q w = true) :
    (op, q, w) ∈ legalPositions := by
  unfold legalPosition at h
  split at h <;> simp_all [legalPositions]

/-! ### A command in progress -/

/-- The command `op` is in progress, or none is, in session state `q`: `ControlOk` but for the wait point. -/
def Running (op : CurOp) (q : SeqState) (s : State) : Prop :=
  s.curOp = op ∧ s.seqState = q ∧ (s.status.busy = true ↔ op ≠ .none) ∧ s.status.subscribed = receiving q ∧
  s.framer = none

/-- The parts of the invariant about memories, parameters and the session's data, which no move of the sequencer
touches. -/
def DataOk (s : State) : Prop :=
  MemoryOk s ∧ CapacityOk s ∧ s.cfg.Ok ∧
  (s.status.devResValid = true → s.devW ≠ 0 ∧ s.devH ≠ 0) ∧
  (s.status.resValid = true → s.resW ≠ 0 ∧ s.resH ≠ 0 ∧ fits s s.resW.toNat s.resH.toNat = true) ∧
  (s.status.planesValid = true → s.status.resValid = true ∧ s.planeLen.toNat = planeBytes s.resW.toNat s.resH.toNat)

/-- The session flags agree with the session state (the other clauses of `SessionOk`). -/
def PhaseOk (q : SeqState) (s : State) : Prop :=
  (s.status.resValid = true → q ≠ .disconnected ∧ q ≠ .connecting ∧ q ≠ .negotiating) ∧
  (q = .ready → s.status.resValid = true) ∧
  (q = .transferring ∨ q = .refreshing → s.status.planesValid = true)

/-- Neither completion flag is set. -/
def Unfinished (s : State) : Prop := s.status.done = false ∧ s.status.err = false

/-- A command that runs on has no error; an OPEN that is torn down has one. -/
def ErrorOk (op : CurOp) (q : SeqState) (s : State) : Prop :=
  (q ≠ .teardown → s.errcode = .none) ∧ (op = .openOp → q = .teardown → s.errcode ≠ .none)

/-- What a rule of the sequencer finds when it starts, but for the wait point, the timer and the transfer. -/
def Live (full : Prop) (op : CurOp) (q : SeqState) (s : State) : Prop :=
  Running op q s ∧ (full → (DataOk s ∧ PhaseOk q s ∧ Unfinished s) ∧ ErrorOk op q s)

/-- The invariant without its control part. -/
def RestOk (s : State) : Prop :=
  TimerOk s ∧ FlagsOk s ∧ MemoryOk s ∧ CapacityOk s ∧ SessionOk s ∧ TransferOk s

/-- `ControlOk`; and the whole invariant where `full` holds. -/
def Legal (full : Prop) (s : State) : Prop := ControlOk s ∧ (full → RestOk s)

theorem legal_true_iff (s : State) : Legal True s ↔ Invariant s :=
  ⟨fun ⟨hc, hr⟩ => ⟨hc, hr trivial⟩, fun ⟨hc, hr⟩ => ⟨hc, fun _ => hr⟩⟩

theorem legal_false_iff (s : State) : Legal False s ↔ ControlOk s :=
  ⟨fun h => h.1, fun h => ⟨h, False.elim⟩⟩

theorem sessionOk_iff (s : State) (hm : MemoryOk s) (hc : CapacityOk s) :
    SessionOk s ↔ DataOk s ∧ PhaseOk s.seqState s := by
  unfold SessionOk DataOk PhaseOk
  tauto

variable {full : Prop} {op : CurOp} {q : SeqState} {s : State}

/-- Where the sequencer stands, from its wait point. -/
theorem Legal.position (h : Legal full s) : (s.curOp, s.seqState, s.wait) ∈ legalPositions :=
  mem_legalPositions h.1.1

theorem Legal.running (h : Legal full s) : Running s.curOp s.seqState s := by
  obtain ⟨⟨_, hbusy, hsub, hframer⟩, _⟩ := h
  exact ⟨rfl, rfl, hbusy, hsub, hframer⟩

/-- What a rule finds when a command is in progress. -/
theorem Legal.live (h : Legal full s) (hop : s.curOp ≠ .none) : Live full s.curOp s.seqState s := by
  refine ⟨h.running, fun hf => ?_⟩
  obtain ⟨⟨_, hbusy, _, _⟩, hrest⟩ := h
  obtain ⟨_, ⟨hflags, _, _, hno, hopen⟩, hm, hc, hs, _⟩ := hrest hf
  have hb := hbusy.2 hop
  obtain ⟨hd, hp⟩ := (sessionOk_iff s hm hc).1 hs
  exact ⟨⟨hd, hp, hflags hb⟩, fun hq => hno ⟨hb, hq⟩, fun ho hq => hopen ⟨ho, hq⟩⟩

/-- What a command finds when it is presented to an idle unit: DONE, ERR and ERRCODE are cleared (40_command.md R120). -/
theorem Legal.cleared (h : Legal full s) (hb : s.status.busy = false) :
    Live full .none s.seqState (cleared s) ∧ (s.seqState = .disconnected ∨ s.seqState = .ready) ∧ s.wait = .idle := by
  obtain ⟨_, _, hbusy, hsub, hframer⟩ := h.running
  have hop : s.curOp = .none := by
    by_contra hne
    simp [hbusy.2 hne] at hb
  have hpos := h.position
  rw [hop] at hpos
  have hq : (s.seqState = .disconnected ∨ s.seqState = .ready) ∧ s.wait = .idle := by
    simp [legalPositions] at hpos
    tauto
  refine ⟨⟨⟨hop, rfl, by simp [Machine.cleared, hb], hsub, hframer⟩, fun hf => ?_⟩, hq⟩
  obtain ⟨_, _, hm, hc, hs, _⟩ := h.2 hf
  obtain ⟨hd, hp⟩ := (sessionOk_iff s hm hc).1 hs
  refine ⟨⟨hd, hp, rfl, rfl⟩, fun _ => rfl, fun ho => by cases ho⟩

/-! ### How an event ends -/

/-- The command goes on at the wait point the state names: a legal one, with the timer loaded if it is timed, and with
the transfer's own conditions if the unit transfers. -/
theorem Live.legal (h : Live full op q s) (hop : op ≠ .none) (hpos : legalPosition op q s.wait = true)
    (htimer : full → TimerOk s) (hx : full → TransferOk s) : Legal full s := by
  obtain ⟨⟨rfl, rfl, hbusy, hsub, hframer⟩, hdata⟩ := h
  refine ⟨⟨hpos, hbusy, hsub, hframer⟩, fun hf => ?_⟩
  obtain ⟨⟨hd, hp, hu⟩, hno, hopen⟩ := hdata hf
  obtain ⟨hdone, herr⟩ := hu
  refine ⟨htimer hf, ⟨fun _ => ⟨hdone, herr⟩, by simp [hdone], by simp [herr], fun hq => hno hq.2,
    fun hq => hopen hq.1 hq.2⟩, hd.1, hd.2.1, (sessionOk_iff s hd.1 hd.2.1).2 ⟨hd, hp⟩, hx hf⟩

theorem Live.seqState (h : Live full op q s) : s.seqState = q := by
  obtain ⟨⟨_, hseq, _⟩, _⟩ := h
  exact hseq

/-- The command goes on outside the transfer, with the timer loaded if the wait point is timed. -/
theorem Live.awaitTimer (h : Live full op q s) (hop : op ≠ .none) (hpos : legalPosition op q s.wait = true)
    (htimer : TimerOk s) (hq : q ≠ .transferring) : Legal full s :=
  h.legal hop hpos (fun _ => htimer) fun _ ht => absurd (h.seqState.symm.trans ht) hq

/-- The command goes on at an untimed wait point outside the transfer. -/
theorem Live.await (h : Live full op q s) (hop : op ≠ .none) (hpos : legalPosition op q s.wait = true)
    (hw : timedWait s.wait = false) (hq : q ≠ .transferring) : Legal full s :=
  h.awaitTimer hop hpos (fun ht => by simp [hw] at ht) hq

/-- A command completes, with or without an error, in a state in which the unit can be idle (40_command.md R124). -/
theorem Running.complete_legal (hr : Running op q s) (hq : q = .disconnected ∨ q = .ready)
    (hd : full → DataOk s ∧ PhaseOk q s ∧ Unfinished s) : Legal full (complete s) := by
  obtain ⟨_, hseq, _, hsub, hframer⟩ := hr
  constructor
  · refine ⟨?_, ?_, ?_, by simpa using hframer⟩
    · rcases hq with rfl | rfl <;> simp [hseq, legalPosition]
    · simp only [complete_status, complete_curOp]; split <;> simp
    · simp only [complete_status, complete_seqState, hseq]; split <;> exact hsub
  · intro hf
    obtain ⟨hdata, hphase, hdone, herr⟩ := hd hf
    have hdata' : DataOk (complete s) := by unfold complete; split <;> exact hdata
    have hphase' : PhaseOk (complete s).seqState (complete s) := by
      rw [complete_seqState, hseq]; unfold complete; split <;> exact hphase
    refine ⟨by simp [TimerOk, timedWait], ?_, hdata'.1, hdata'.2.1,
      (sessionOk_iff _ hdata'.1 hdata'.2.1).2 ⟨hdata', hphase'⟩, ?_⟩
    · by_cases he : s.errcode = .none <;> simp [FlagsOk, he, hdone, herr]
    · intro ht
      rw [complete_seqState, hseq] at ht
      rcases hq with rfl | rfl <;> cases ht

theorem Live.complete_legal (h : Live full op q s) (hq : q = .disconnected ∨ q = .ready) : Legal full (complete s) :=
  h.1.complete_legal hq fun hf => (h.2 hf).1

/-- A local error completes the command (60_exceptions.md R236). -/
theorem Live.localError (h : Live full op q s) (hq : q = .disconnected ∨ q = .ready) (code : ErrCode)
    (hcode : errClass code = .localError) : Legal full (raiseError code s) := by
  rw [raiseError_local code s hcode]
  unfold recordError
  split
  · exact Running.complete_legal (op := op) (q := q) h.1 hq fun hf => (h.2 hf).1
  · exact h.complete_legal hq

/-- Teardown starts (43_session.md R189). -/
theorem Running.teardown_legal (hr : Running op q s) (hop : op = .openOp ∨ op = .xferOp ∨ op = .closeOp)
    (hd : full → DataOk s ∧ Unfinished s ∧ (op = .openOp → s.errcode ≠ .none)) : Legal full (startTeardown s) := by
  obtain ⟨hcur, _, hbusy, _, hframer⟩ := hr
  have hrun : Running op .teardown (startTeardown s) := ⟨hcur, rfl, hbusy, rfl, hframer⟩
  refine Live.await (op := op) (q := .teardown) ⟨hrun, fun hf => ?_⟩ ?_ ?_ rfl (by decide)
  · obtain ⟨hdata, hu, he⟩ := hd hf
    exact ⟨⟨hdata, ⟨by simp, by simp, by simp⟩, hu⟩, by simp, fun ho _ => he ho⟩
  · rcases hop with rfl | rfl | rfl <;> simp
  · rcases hop with rfl | rfl | rfl <;> rfl

/-- A session error starts teardown (60_exceptions.md R236). -/
theorem Live.sessionError (h : Live full op q s) (hop : op = .openOp ∨ op = .xferOp) (code : ErrCode)
    (hcode : errClass code = .sessionError) : Legal full (raiseError code s) := by
  have hop' : op = .openOp ∨ op = .xferOp ∨ op = .closeOp := by tauto
  rw [raiseError_session code s hcode]
  unfold recordError
  split
  · refine Running.teardown_legal (op := op) (q := q) h.1 hop' fun hf => ?_
    obtain ⟨⟨hd, _, hu⟩, _⟩ := h.2 hf
    exact ⟨hd, hu, fun _ => by rintro rfl; cases hcode⟩
  · rename_i hne
    refine h.1.teardown_legal hop' fun hf => ?_
    obtain ⟨⟨hd, _, hu⟩, _⟩ := h.2 hf
    exact ⟨hd, hu, fun _ => hne⟩

end Sys2Proof.Machine
end

section
/-! The session's rules (43_session.md) keep the control part and the invariant. -/

namespace Sys2Proof.Machine

variable {full : Prop} {op : CurOp} {q : SeqState} {s : State}

/-! ### Timers (60_exceptions.md R245) -/

/-- The timer may be set to anything but 0. -/
theorem Legal.setTimer (h : Legal full s) {v : Half} (hv : v ≠ 0) : Legal full { s with timer := v } := by
  refine ⟨h.1, fun hf => ?_⟩
  obtain ⟨_, hrest⟩ := h.2 hf
  exact ⟨fun _ => hv, hrest⟩

/-- A tick at a timed wait point counts down, or goes on with the rule the wait point names. -/
theorem Legal.countTick (h : Legal full s) {goOn : State → State}
    (hgo : Legal full (goOn { s with timer := s.timer - 1 })) : Legal full (countTick goOn s) := by
  rcases countTick_cases goOn s with ⟨_, heq⟩ | ⟨hne, heq⟩
  · rw [heq]; exact hgo
  · rw [heq]; exact h.setTimer hne

/-! ### OPEN (43_session.md R170 to R173) -/

theorem onConnectRsp_legal (h : Live full .openOp .connecting s) (ok : Bool) (maxpl : Nat) :
    Legal full (onConnectRsp ok maxpl s) := by
  unfold onConnectRsp
  split
  · exact Live.await (op := .openOp) (q := .connecting) h (by simp) rfl rfl (by simp)
  · exact h.sessionError (.inl rfl) _ rfl

/-- Before negotiation there is no resolution and there are no planes. -/
theorem PhaseOk.no_resolution (h : PhaseOk q s) (hq : q = .disconnected ∨ q = .connecting ∨ q = .negotiating) :
    s.status.resValid = false := by
  by_contra hne
  have := h.1 (by simpa using hne)
  tauto

theorem onSubscribeRsp_legal (h : Live full .openOp .connecting s) (ok : Bool) :
    Legal full (onSubscribeRsp ok s) := by
  unfold onSubscribeRsp
  split
  · refine Live.await (op := .openOp) (q := .negotiating) ⟨?_, fun hf => ?_⟩ (by simp) rfl rfl (by simp)
    · obtain ⟨hop, _, hbusy, _, hframer⟩ := h.1
      exact ⟨hop, rfl, hbusy, rfl, hframer⟩
    · obtain ⟨⟨hd, hp, hu⟩, he, _⟩ := h.2 hf
      have hnone := hp.no_resolution (by simp)
      refine ⟨⟨hd, ⟨fun hr => ?_, by simp, by simp⟩, hu⟩, fun _ => he (by simp), by simp⟩
      exact absurd (hnone.symm.trans hr) (by simp)
  · exact h.sessionError (.inl rfl) _ rfl

/-! ### The end of negotiation (43_session.md R185, R186) -/

/-- A chosen resolution has two dimensions. -/
theorem chosenResolution_ne_zero (hdev : s.status.devResValid = true → s.devW ≠ 0 ∧ s.devH ≠ 0) {w h : Half}
    (hc : chosenResolution s = some (w, h)) : w ≠ 0 ∧ h ≠ 0 := by
  unfold chosenResolution at hc
  split at hc
  · rename_i hexp; cases hc; exact hexp
  · split at hc
    · rename_i hd; cases hc; exact hdev hd
    · cases hc

theorem resolve_legal (h : Live full .openOp .negotiating s) : Legal full (resolve s) := by
  unfold resolve
  split
  · exact h.sessionError (.inl rfl) _ rfl
  · rename_i w ht hchosen
    split
    · rename_i hfits
      refine Running.complete_legal (op := .openOp) (q := .ready) ?_ (by simp) fun hf => ?_
      · obtain ⟨hop, _, hbusy, hsub, hframer⟩ := h.1
        exact ⟨hop, rfl, hbusy, hsub, hframer⟩
      · obtain ⟨⟨⟨hm, hc, hcfg, hdev, _, hplanes⟩, hp, hu⟩, _⟩ := h.2 hf
        obtain ⟨hw, hh⟩ := chosenResolution_ne_zero hdev hchosen
        have hnone := hp.no_resolution (by simp)
        refine ⟨⟨hm, hc, hcfg, hdev, fun _ => ⟨hw, hh, hfits⟩, fun hpv => ?_⟩, ⟨by simp, by simp, by simp⟩, hu⟩
        exact absurd (hnone.symm.trans (hplanes hpv).1) (by simp)
    · exact h.sessionError (.inl rfl) _ rfl

theorem negotiationTimeout_legal (h : Live full .openOp .negotiating s) : Legal full (negotiationTimeout s) :=
  resolve_legal (s := { s with
    status := { s.status with negTo := true }, tu := if s.status.mtuRcvd then s.tu else s.linkmax }) h

theorem onInitAck_legal (h : Live full .openOp .negotiating s) (ok : Bool) : Legal full (onInitAck ok s) := by
  unfold onInitAck
  split
  · exact h.sessionError (.inl rfl) _ rfl
  · split
    · exact resolve_legal h
    · rcases startTimer_cases s.tNeg .negotiate negotiationTimeout s with ⟨_, heq⟩ | ⟨hne, heq⟩ <;> rw [heq]
      · exact negotiationTimeout_legal (s := { s with timer := s.tNeg }) h
      · exact Live.awaitTimer (op := .openOp) (q := .negotiating) h (by simp) rfl (fun _ => hne) (by simp)

/-! ### Notifications (43_session.md R175 to R181) -/

/-- `MODEL_RES` gives no empty resolution (00_scope.md R6). -/
theorem lookupModel_ne_zero {entries : List Config.ModelEntry}
    (hok : ∀ e ∈ entries, 1 ≤ e.width.toNat ∧ 1 ≤ e.height.toNat) {m : Byte} {w h : Half}
    (hl : lookupModel entries m = some (w, h)) : w ≠ 0 ∧ h ≠ 0 := by
  induction entries with
  | nil => cases hl
  | cons e rest ih =>
    unfold lookupModel at hl
    split at hl
    · cases hl
      obtain ⟨hw, hh⟩ := hok e List.mem_cons_self
      constructor
      · intro hz; rw [hz] at hw; simp at hw
      · intro hz; rw [hz] at hh; simp at hh
    · exact ih (fun e he => hok e (List.mem_cons_of_mem _ he)) hl

theorem modelLookup_legal (h : Legal full s) : Legal full (modelLookup s) := by
  unfold modelLookup
  split
  · rename_i w ht hl
    refine ⟨h.1, fun hf => ?_⟩
    obtain ⟨hti, hfl, hm, hca, ⟨hcfg, _, hsession⟩, hx⟩ := h.2 hf
    have ⟨_, _, _, _, hmodel, _⟩ := hcfg
    exact ⟨hti, hfl, hm, hca, ⟨hcfg, fun _ => lookupModel_ne_zero hmodel hl, hsession⟩, hx⟩
  · exact h

theorem configNotification_legal (h : Legal full s) (bytes : List Byte) :
    Legal full (configNotification bytes s) := by
  unfold configNotification
  split
  · rename_i ws _
    exact modelLookup_legal
      (s := { s with epdcfg := ws, status := { s.status with cfgRcvd := true, cfgValid := true } }) h
  · exact h

theorem laterNotification_legal (h : Legal full s) (bytes : List Byte) :
    Legal full (laterNotification bytes s) := by
  unfold laterNotification
  split
  · exact h
  · split
    · split
      · rename_i hneg
        refine ⟨h.1, fun hf => ?_⟩
        obtain ⟨hti, hfl, hm, hca, hs, _⟩ := h.2 hf
        exact ⟨hti, hfl, hm, hca, hs, fun ht => absurd (hneg.1.symm.trans ht) (by simp)⟩
      · exact h
    · exact h

theorem recordNotification_legal (h : Legal full s) (bytes : List Byte) :
    Legal full (recordNotification bytes s) := by
  unfold recordNotification
  split
  · exact laterNotification_legal (s := { s with notifCnt := sat8Inc s.notifCnt }) h bytes
  · exact configNotification_legal (s := { s with notifCnt := sat8Inc s.notifCnt }) h bytes

/-- What a rule finds at the wait point of a command in progress. -/
theorem Legal.live_at (h : Legal full s) (hw : s.wait ≠ .idle) : Live full s.curOp s.seqState s := by
  refine h.live fun hop => hw ?_
  have hpos := h.position
  simp [hop, legalPositions] at hpos
  tauto

/-- A wait point that only one command has, in one session state, names both. -/
theorem Legal.live_only (h : Legal full s) {w : Wait} (hw : s.wait = w) (hidle : w ≠ .idle)
    (honly : ∀ o r, (o, r, w) ∈ legalPositions → o = op ∧ r = q) : Live full op q s := by
  subst hw
  obtain ⟨hop, hq⟩ := honly _ _ h.position
  have hl := h.live_at hidle
  rwa [hop, hq] at hl

/-- At `negotiate` the unit negotiates for OPEN. -/
theorem Legal.live_negotiate (h : Legal full s) (hw : s.wait = .negotiate) : Live full .openOp .negotiating s :=
  h.live_only hw (by simp) (by simp [legalPositions])

theorem onNotify_legal (h : Legal full s) (bytes : List Byte) : Legal full (onNotify bytes s) := by
  have hrec := recordNotification_legal h bytes
  unfold onNotify
  split
  · exact h
  · split
    · rename_i hboth
      obtain ⟨_, _, _, _, _, _, _, _, _, _, _, heq⟩ := recordNotification_frame bytes s
      have hw : (recordNotification bytes s).wait = .negotiate := by rw [heq]; exact hboth.1
      exact resolve_legal (hrec.live_negotiate hw)
    · exact hrec

/-! ### Teardown (43_session.md R190, R191) -/

theorem onUnsubscribeRsp_legal (h : Live full op .teardown s) (hop : op = .openOp ∨ op = .xferOp ∨ op = .closeOp)
    (ok : Bool) : Legal full (onUnsubscribeRsp ok s) := by
  have hnote : Live full op .teardown (noteTeardownRsp ok s) := by
    unfold noteTeardownRsp
    rw [raiseError_linkTeardown]
    unfold recordError
    split
    · exact h
    · split
      · exact ⟨h.1, fun hf => ⟨(h.2 hf).1, by simp, by simp⟩⟩
      · exact h
  refine Live.await (op := op) (q := .teardown) hnote ?_ ?_ rfl (by simp)
  · rcases hop with rfl | rfl | rfl <;> simp
  · rcases hop with rfl | rfl | rfl <;> rfl

theorem onDisconnectRsp_legal (h : Live full op .teardown s) (ok : Bool) : Legal full (onDisconnectRsp ok s) := by
  have hend : ∀ t, Running op .teardown t → (full → DataOk t ∧ Unfinished t) →
      Legal full (complete { t with
        seqState := .disconnected, status := { t.status with resValid := false, planesValid := false } }) := by
    intro t hr hd
    obtain ⟨hop, _, hbusy, hsub, hframer⟩ := hr
    refine Running.complete_legal (op := op) (q := .disconnected) ⟨hop, rfl, hbusy, hsub, hframer⟩ (.inl rfl)
      fun hf => ?_
    obtain ⟨⟨hm, hc, hcfg, hdev, _, _⟩, hu⟩ := hd hf
    exact ⟨⟨hm, hc, hcfg, hdev, by simp, by simp⟩, ⟨by simp, by simp, by simp⟩, hu⟩
  have hdata : full → DataOk s ∧ Unfinished s := fun hf => by
    obtain ⟨⟨hd, _, hu⟩, _⟩ := h.2 hf
    exact ⟨hd, hu⟩
  unfold onDisconnectRsp noteTeardownRsp
  rw [raiseError_linkTeardown]
  unfold recordError
  split
  · exact hend s h.1 hdata
  · split
    · exact hend { s with errcode := .linkTeardown } h.1 hdata
    · exact hend s h.1 hdata

end Sys2Proof.Machine
end

section
/-! The transfer's rules (44_transfer.md) keep the control part and the invariant. -/

namespace Sys2Proof.Machine

variable {full : Prop} {op : CurOp} {q : SeqState} {s : State}

/-- XFER's checks and what its acceptance sets (44_transfer.md R200). -/
def TransferSetup (s : State) : Prop :=
  2 ≤ s.tu.toNat ∧ s.cs = s.tu - 1 ∧ s.interleave ≠ 0 ∧ s.nplanes = (if s.packedMode = .tri then 2 else 1)

/-- The plane's registers are loaded and the next chunk starts a run (44_transfer.md R203, R204). -/
def PlaneReady (s : State) : Prop :=
  s.base.toNat = planeIndex s.plane * s.planeLen.toNat ∧ s.sel = planeSelector s.cfg s.plane ∧
  s.chunkCnt.toNat = chunkTotal s ∧ s.chunkIdx.toNat % s.interleave.toNat = 0 ∧ s.ilCnt = s.interleave ∧
  (s.plane = .r → s.packedMode = .tri)

theorem transferOk_of_setup (h : TransferSetup s) (hp : s.wait = .chunkAck ∨ s.wait = .pace → PlaneOk s) :
    TransferOk s := by
  obtain ⟨htu, hcs, hil, hn⟩ := h
  exact fun _ => ⟨htu, hcs, hil, hn, hp⟩

/-- At the wait points of the transfer XFER is in progress, with its conditions. -/
theorem Legal.live_transfer (h : Legal full s) (hw : s.wait ∈ [Wait.clearAck, .settleClear, .chunkAck, .pace]) :
    Live full .xferOp .transferring s ∧ (full → TransferSetup s) ∧
      (full → s.wait = .chunkAck ∨ s.wait = .pace → PlaneOk s) := by
  have hpos := h.position
  have hlive : Live full .xferOp .transferring s := by
    have hl : s.wait ≠ .idle ∧ s.curOp = .xferOp ∧ s.seqState = .transferring := by
      simp only [List.mem_cons, List.not_mem_nil, or_false] at hw
      rcases hw with hw | hw | hw | hw <;> simpa [hw, legalPositions] using hpos
    obtain ⟨hidle, hop, hq⟩ := hl
    have hlive := h.live_at hidle
    rwa [hop, hq] at hlive
  have hx : full → TransferOk s := fun hf => by
    obtain ⟨_, _, _, _, _, hx⟩ := h.2 hf
    exact hx
  refine ⟨hlive, fun hf => ?_, fun hf => ?_⟩ <;> obtain ⟨htu, hcs, hil, hn, hp⟩ := hx hf hlive.seqState
  · exact ⟨htu, hcs, hil, hn⟩
  · exact hp

/-- The transfer goes on at a wait point. -/
theorem Live.transfer_legal (h : Live full .xferOp .transferring s)
    (hpos : legalPosition .xferOp .transferring s.wait = true) (htimer : full → TimerOk s)
    (hx : full → TransferSetup s) (hp : full → s.wait = .chunkAck ∨ s.wait = .pace → PlaneOk s) : Legal full s :=
  h.legal (by simp) hpos htimer fun hf => transferOk_of_setup (hx hf) (hp hf)

/-! ### Chunks (44_transfer.md R203 to R206) -/

/-- A run of chunks: as many as the counter and the plane allow (44_transfer.md R204). -/
theorem sendChunks_closed (s : State) (hlt : s.chunkIdx.toNat < s.chunkCnt.toNat) (hil : 1 ≤ s.ilCnt.toNat) :
    ∃ reqs, sendChunks s = afterChunks s (min s.ilCnt.toNat (s.chunkCnt.toNat - s.chunkIdx.toNat)) reqs :=
  ⟨_, sendLoop_closed _ s (by omega) (by omega) hil⟩

/-- After a run the chunks sent are the whole plane, or end on a multiple of the interleave count. -/
theorem PlaneReady.planeOk_afterChunks (h : PlaneReady s) (hlt : s.chunkIdx.toNat < s.chunkCnt.toNat)
    (reqs : List LinkReq) :
    PlaneOk (afterChunks s (min s.ilCnt.toNat (s.chunkCnt.toNat - s.chunkIdx.toNat)) reqs) := by
  obtain ⟨hbase, hsel, hcnt, hmod, hil, hr⟩ := h
  have hbound := s.chunkCnt.isLt
  have hidx : (s.chunkIdx + BitVec.ofNat 24 (min s.ilCnt.toNat (s.chunkCnt.toNat - s.chunkIdx.toNat))).toNat =
      s.chunkIdx.toNat + min s.ilCnt.toNat (s.chunkCnt.toNat - s.chunkIdx.toNat) := by
    rw [BitVec.toNat_add, BitVec.toNat_ofNat]
    omega
  refine ⟨hbase, hsel, hcnt, ?_, fun hmore => ?_, by simp [afterChunks], hr⟩
  · show BitVec.toNat (_ + _) ≤ _
    rw [hidx]
    show _ ≤ s.chunkCnt.toNat
    omega
  · change BitVec.toNat (_ + _) < s.chunkCnt.toNat at hmore
    show BitVec.toNat (_ + _) % s.interleave.toNat = 0
    rw [hidx] at hmore ⊢
    rw [show min s.ilCnt.toNat (s.chunkCnt.toNat - s.chunkIdx.toNat) = s.interleave.toNat by rw [← hil]; omega,
      Nat.add_mod_right, hmod]

theorem one_le_toNat_of_ne_zero {w : Nat} {v : BitVec w} (h : v ≠ 0) : 1 ≤ v.toNat :=
  Nat.one_le_iff_ne_zero.2 (by simpa using BitVec.toNat_ne_iff_ne.2 h)

theorem sendChunks_legal (h : Live full .xferOp .transferring s) (hlt : s.chunkIdx.toNat < s.chunkCnt.toNat)
    (hx : full → TransferSetup s) (hp : full → PlaneReady s) : Legal full (sendChunks s) := by
  obtain ⟨m, unacked, last, _, _, heq, _⟩ := sendChunks_spec s hlt
  have hlive : Live full .xferOp .transferring (sendChunks s) := by rw [heq]; exact h
  refine hlive.transfer_legal (by rw [heq]; rfl) (fun _ => by rw [heq]; simp [TimerOk, afterChunks, timedWait])
    (fun hf => by rw [heq]; exact hx hf) fun hf _ => ?_
  obtain ⟨_, _, hil, _⟩ := hx hf
  have hready := hp hf
  have ⟨_, _, _, _, hfull, _⟩ := hready
  obtain ⟨reqs, hclosed⟩ := sendChunks_closed s hlt (by rw [hfull]; exact one_le_toNat_of_ne_zero hil)
  rw [hclosed]
  exact hready.planeOk_afterChunks hlt reqs

/-! ### Planes (44_transfer.md R203, R209) -/

theorem startRefresh_legal (h : Live full .xferOp .transferring s) : Legal full (startRefresh s) := by
  refine Live.await (op := .xferOp) (q := .refreshing) ⟨?_, fun hf => ?_⟩ (by simp) rfl rfl (by simp)
  · obtain ⟨hop, _, hbusy, hsub, hframer⟩ := h.1
    exact ⟨hop, rfl, hbusy, hsub, hframer⟩
  · obtain ⟨⟨hd, ⟨_, _, hplanes⟩, hu⟩, he, _⟩ := h.2 hf
    exact ⟨⟨hd, ⟨by simp, by simp, fun _ => hplanes (.inl rfl)⟩, hu⟩, fun _ => he (by simp), by simp⟩

/-- A plane has at most as many chunks as bytes. -/
theorem ceilDiv_le {a b : Nat} (hb : 1 ≤ b) : ceilDiv a b ≤ a := by
  unfold ceilDiv
  rw [← Nat.ceilDiv_eq_add_pred_div, ceilDiv_le_iff_le_mul hb]
  exact Nat.le_mul_of_pos_left a hb

theorem TransferSetup.cs_pos (h : TransferSetup s) : 1 ≤ s.cs.toNat := by
  obtain ⟨htu, hcs, _, _⟩ := h
  rw [hcs, BitVec.toNat_sub]
  have := s.tu.isLt
  simp
  omega

theorem planeReady_loadPlane (hx : TransferSetup s) (pl : Plane) (hpl : pl = .r → s.packedMode = .tri) :
    PlaneReady (loadPlane pl s) := by
  have hlen := s.planeLen.isLt
  have hchunks := ceilDiv_le (a := s.planeLen.toNat) hx.cs_pos
  refine ⟨?_, rfl, ?_, Nat.zero_mod _, rfl, hpl⟩
  · show BitVec.toNat (BitVec.ofNat 24 (planeIndex pl * s.planeLen.toNat)) = planeIndex pl * s.planeLen.toNat
    rw [BitVec.toNat_ofNat]
    cases pl <;> simp only [planeIndex] <;> omega
  · show BitVec.toNat (BitVec.ofNat 24 (ceilDiv s.planeLen.toNat s.cs.toNat)) = ceilDiv s.planeLen.toNat s.cs.toNat
    rw [BitVec.toNat_ofNat]
    omega

/-- A plane start: the first run of the plane, or what follows a plane without chunks. -/
theorem runPlane_legal (h : Live full .xferOp .transferring s) (hx : full → TransferSetup s) (pl : Plane)
    (hpl : full → pl = .r → s.packedMode = .tri) {atEnd : State → State}
    (hend : Legal full (atEnd (loadPlane pl s))) : Legal full (runPlane atEnd (loadPlane pl s)) := by
  unfold runPlane
  split
  · exact hend
  · rename_i hne
    exact sendChunks_legal (s := loadPlane pl s) h (one_le_toNat_of_ne_zero hne) hx
      fun hf => planeReady_loadPlane (hx hf) pl (hpl hf)

theorem planeEnd_legal (h : Live full .xferOp .transferring s) (hx : full → TransferSetup s) :
    Legal full (planeEnd s) := by
  unfold planeEnd
  split
  · rename_i hmore
    refine runPlane_legal h hx .r (fun hf _ => ?_) (startRefresh_legal (s := loadPlane .r s) h)
    obtain ⟨_, _, _, hn⟩ := hx hf
    by_contra hmono
    rw [if_neg hmono] at hn
    simp [hn] at hmore
  · exact startRefresh_legal h

theorem startPlaneB_legal (h : Live full .xferOp .transferring s) (hx : full → TransferSetup s) :
    Legal full (startPlaneB s) :=
  runPlane_legal h hx .b (fun _ hb => by cases hb) (planeEnd_legal (s := loadPlane .b s) h hx)

theorem continueTransfer_legal (h : Live full .xferOp .transferring s) (hx : full → TransferSetup s)
    (hp : full → s.chunkIdx.toNat < s.chunkCnt.toNat → PlaneReady s) : Legal full (continueTransfer s) := by
  unfold continueTransfer
  split
  · rename_i hlt
    exact sendChunks_legal h hlt hx fun hf => hp hf hlt
  · exact planeEnd_legal h hx

/-- Between two runs the plane's registers are as at its start, but for the chunks sent. -/
theorem PlaneOk.ready (h : PlaneOk s) (hil : s.ilCnt = s.interleave) (hlt : s.chunkIdx.toNat < s.chunkCnt.toNat) :
    PlaneReady s := by
  obtain ⟨hbase, hsel, hcnt, _, hmod, _, hr⟩ := h
  exact ⟨hbase, hsel, hcnt, hmod hlt, hil, hr⟩

/-- The counter is full again once a chunk is acknowledged (44_transfer.md R207). -/
theorem PlaneOk.acknowledged (h : PlaneOk s) : PlaneOk { s with ilCnt := s.interleave } := by
  obtain ⟨hbase, hsel, hcnt, hle, hmod, _, hr⟩ := h
  exact ⟨hbase, hsel, hcnt, hle, hmod, fun _ => rfl, hr⟩

/-- What the plane's registers say does not depend on the timer, nor, with a full counter, on the wait point. -/
theorem PlaneOk.waiting (h : PlaneOk s) (hil : s.ilCnt = s.interleave) (v : Half) (w : Wait) :
    PlaneOk { s with timer := v, wait := w } := by
  obtain ⟨hbase, hsel, hcnt, hle, hmod, _, hr⟩ := h
  exact ⟨hbase, hsel, hcnt, hle, hmod, fun _ => hil, hr⟩

/-! ### Responses (44_transfer.md R201, R207, R210) -/

theorem onClearAck_legal (h : Live full .xferOp .transferring s) (hx : full → TransferSetup s) (ok : Bool) :
    Legal full (onClearAck ok s) := by
  unfold onClearAck
  split
  · exact h.sessionError (.inr rfl) _ rfl
  · rcases startTimer_cases s.tClear .settleClear startPlaneB s with ⟨_, heq⟩ | ⟨hne, heq⟩ <;> rw [heq]
    · exact startPlaneB_legal (s := { s with timer := s.tClear }) h hx
    · exact Live.transfer_legal h rfl (fun _ _ => hne) hx (fun _ hw => by simp at hw)

theorem onChunkAck_legal (h : Live full .xferOp .transferring s) (hx : full → TransferSetup s)
    (hp : full → PlaneOk s) (ok : Bool) : Legal full (onChunkAck ok s) := by
  unfold onChunkAck
  split
  · exact h.sessionError (.inr rfl) _ rfl
  · rcases startTimer_cases s.tPace .pace continueTransfer { s with ilCnt := s.interleave } with
      ⟨_, heq⟩ | ⟨hne, heq⟩ <;> rw [heq]
    · exact continueTransfer_legal (s := { s with ilCnt := s.interleave, timer := s.tPace }) h hx
        fun hf hlt => ((hp hf).acknowledged.waiting rfl s.tPace s.wait).ready rfl hlt
    · exact Live.transfer_legal h rfl (fun _ _ => hne) hx
        fun hf _ => (hp hf).acknowledged.waiting rfl s.tPace .pace

theorem Live.xfer_teardown (h : Live full .xferOp q s) : Legal full (startTeardown s) := by
  refine h.1.teardown_legal (.inr (.inl rfl)) fun hf => ?_
  obtain ⟨⟨hd, _, hu⟩, _⟩ := h.2 hf
  exact ⟨hd, hu, by simp⟩

theorem onRefreshAck_legal (h : Live full .xferOp .refreshing s) (ok : Bool) : Legal full (onRefreshAck ok s) := by
  unfold onRefreshAck
  split
  · exact h.sessionError (.inr rfl) _ rfl
  · rcases startTimer_cases s.tRefresh .settleRefresh startTeardown s with ⟨_, heq⟩ | ⟨hne, heq⟩ <;> rw [heq]
    · exact Live.xfer_teardown (q := .refreshing) (s := { s with timer := s.tRefresh }) h
    · exact Live.awaitTimer (op := .xferOp) (q := .refreshing) h (by simp) rfl (fun _ => hne) (by simp)

end Sys2Proof.Machine
end

section
/-! The passes of the compute engine stay within the memories' capacities and keep their canonical form (41_quantizer.md,
42_bitplane.md; 10_state.md R47, R48). -/

namespace Sys2Proof.Machine

variable {full : Prop} {s t : State}

/-! ### Pixel memory -/

/-- `t` is `s` but for pixel memory, which is canonical and lists only the pixels below `cap`. -/
def PixWithin (cap : Nat) (s t : State) : Prop :=
  PixOnly s t ∧ Memory.wf t.pix = true ∧ keysBelow t.pix (3 * cap) = true

theorem PixWithin.writeAccumulator {cap : Nat} (h : PixWithin cap s t) {i : Nat} (hi : i < 3 * cap) (v : BitVec 32) :
    PixWithin cap s (writeAccumulator t i v) := by
  obtain ⟨honly, hwf, hkeys⟩ := h
  exact ⟨honly.trans (writeAccumulator_pixOnly t i v), Memory.wf_write _ _ _ hwf, keysBelow_write _ _ _ _ hi hkeys⟩

theorem PixWithin.writeScaledPixel {cap p : Nat} (h : PixWithin cap s t) (hp : p < cap) (c : Rgb) :
    PixWithin cap s (writeScaledPixel t p c) :=
  ((h.writeAccumulator (by unfold pixelBase; omega) _).writeAccumulator (by unfold pixelBase; omega) _).writeAccumulator
    (by unfold pixelBase; omega) _

theorem PixWithin.addShare {cap : Nat} (h : PixWithin cap s t) {u : Nat × Int} (hu : u.1 < 3 * cap) :
    PixWithin cap s (addShare u t).last := by
  unfold Machine.addShare
  dsimp only
  split
  · exact h
  · exact h.writeAccumulator hu _

/-- Error is spread inside the image only (41_quantizer.md R136). -/
theorem kernelTarget_lt {p q : Nat} {cell : Nat × Nat} (h : kernelTarget s p cell = some q) : q < pixelCount s := by
  unfold kernelTarget at h
  dsimp only at h
  split at h
  · rename_i hin
    obtain ⟨_, _, _, hx, hy⟩ := hin
    cases h
    calc (pixelY s.resW.toNat p + cell.1) * s.resW.toNat + (pixelX s.resW.toNat p + cell.2 - s.kanchor.toNat)
        < (pixelY s.resW.toNat p + cell.1 + 1) * s.resW.toNat := by rw [Nat.succ_mul]; omega
      _ ≤ s.resH.toNat * s.resW.toNat := Nat.mul_le_mul_right _ hy
      _ = pixelCount s := Nat.mul_comm _ _
  · cases h

theorem cellShares_lt {p : Nat} {e : Rgb} {cell : Nat × Nat} {u : Nat × Int} (hu : u ∈ cellShares s p e cell) :
    u.1 < 3 * pixelCount s := by
  unfold cellShares at hu
  split at hu
  · cases hu
  · rename_i q hq
    have hlt := kernelTarget_lt hq
    simp only [List.mem_cons, List.not_mem_nil, or_false, pixelBase] at hu
    rcases hu with rfl | rfl | rfl <;> dsimp only <;> omega

/-- A state that differs in pixel memory only has the same image size. -/
theorem PixOnly.pixelCount (h : PixOnly s t) : pixelCount t = pixelCount s := by
  rw [show t = _ from h]; rfl

theorem PixWithin.diffusePixel {cap p : Nat} (h : PixWithin cap s t) (hcap : pixelCount s ≤ cap)
    (hp : p < pixelCount s) : PixWithin cap s (diffusePixel p t).last := by
  refine runAll_keeps (PixWithin cap s) Machine.addShare _ (fun u hu t' ht' => ht'.addShare ?_) _
    (h.writeScaledPixel (by omega) _)
  obtain ⟨cell, _, hcell⟩ := List.mem_flatMap.1 hu
  have hlt := cellShares_lt hcell
  rw [h.1.pixelCount] at hlt
  omega

/-! ### Plane memory -/

/-- `t` is `s` but for plane memory, which is canonical and lists only the bytes below `cap`. -/
def PlanesWithin (cap : Nat) (s t : State) : Prop :=
  PlanesOnly s t ∧ Memory.wf t.planeMem = true ∧ keysBelow t.planeMem cap = true

theorem PlanesWithin.writePlaneByte {cap j : Nat} (h : PlanesWithin cap s t) (hj : j < cap) (v : Byte) :
    PlanesWithin cap s (writePlaneByte t j v) := by
  obtain ⟨honly, hwf, hkeys⟩ := h
  exact ⟨honly.trans rfl, Memory.wf_write _ _ _ hwf, keysBelow_write _ _ _ _ hj hkeys⟩

theorem PlanesWithin.setPlaneBit {cap j : Nat} (h : PlanesWithin cap s t) (hj : j < cap) (x : Nat) (bit : Bool) :
    PlanesWithin cap s (setPlaneBit t j x bit) := by
  unfold Machine.setPlaneBit
  split
  · exact h.writePlaneByte hj _
  · exact h

/-- The byte of a pixel lies in its plane (42_bitplane.md R161). -/
theorem planeByteOf_lt {w h p : Nat} (hp : p < w * h) : planeByteOf w (pixelX w p) (pixelY w p) < planeBytes w h := by
  have hw : 0 < w := Nat.pos_of_mul_pos_right (Nat.lt_of_le_of_lt (Nat.zero_le _) hp)
  have hx : p % w < w := Nat.mod_lt _ hw
  have hy : p / w < h := Nat.div_lt_of_lt_mul hp
  unfold planeByteOf pixelX pixelY planeBytes
  calc p / w * ceilDiv w 8 + p % w / 8
      < (p / w + 1) * ceilDiv w 8 := by
        rw [Nat.succ_mul]
        unfold ceilDiv
        omega
    _ ≤ h * ceilDiv w 8 := Nat.mul_le_mul_right _ hy
    _ = ceilDiv w 8 * h := Nat.mul_comm _ _

theorem PlanesWithin.packPixel {cap p : Nat} (h : PlanesWithin cap s t)
    (hcap : 2 * planeBytes s.resW.toNat s.resH.toNat ≤ cap) (hp : p < pixelCount s) :
    PlanesWithin cap s (packPixel t p) := by
  have hj := planeByteOf_lt (w := s.resW.toNat) (h := s.resH.toNat) hp
  have hres : t.resW = s.resW ∧ t.resH = s.resH := by rw [show t = _ from h.1]; exact ⟨rfl, rfl⟩
  unfold Machine.packPixel
  dsimp only
  rw [hres.1, hres.2]
  exact (h.setPlaneBit (by omega) _ _).setPlaneBit (by omega) _ _

theorem packPlanes_within {cap : Nat} (hwf : Memory.wf s.planeMem = true) (hkeys : keysBelow s.planeMem cap = true)
    (hcap : 2 * planeBytes s.resW.toNat s.resH.toNat ≤ cap) : PlanesWithin cap s (packPlanes s) := by
  refine foldl_keeps (PlanesWithin cap s) packPixel _
    (fun p hp t ht => ht.packPixel hcap (List.mem_range.1 hp)) _
    (foldl_keeps (PlanesWithin cap s) zeroPlaneByte _ (fun j hj t ht => ht.writePlaneByte ?_ _) s
      ⟨PlanesOnly.refl s, hwf, hkeys⟩)
  have hlt := List.mem_range.1 hj
  have hcount : planeCount s.mode ≤ 2 := by cases s.mode <;> simp [planeCount]
  have hle := Nat.mul_le_mul_right (planeBytes s.resW.toNat s.resH.toNat) hcount
  omega

/-! ### QUANT and PACK (41_quantizer.md R133, 42_bitplane.md R160) -/

/-- A valid resolution fits both memories. -/
theorem DataOk.image_fits (h : DataOk s) (hres : s.status.resValid = true) :
    pixelCount s ≤ s.cfg.pixCap ∧ 2 * planeBytes s.resW.toNat s.resH.toNat ≤ s.cfg.planeCap := by
  obtain ⟨_, _, _, _, hfits, _⟩ := h
  obtain ⟨_, _, hfit⟩ := hfits hres
  simpa [fits, pixelCount] using hfit

/-- What a pass over pixel memory leaves of a command in progress. -/
theorem Live.pixPass (h : Live full .quantOp .ready s) (honly : PixOnly s t)
    (hwithin : full → PixWithin s.cfg.pixCap s t) : Live full .quantOp .ready t := by
  rw [show t = _ from honly]
  refine ⟨h.1, fun hf => ?_⟩
  obtain ⟨⟨⟨⟨_, hwf⟩, ⟨_, hkeys⟩, hdata⟩, hphase⟩, he⟩ := h.2 hf
  obtain ⟨_, hwf', hkeys'⟩ := hwithin hf
  exact ⟨⟨⟨⟨hwf', hwf⟩, ⟨hkeys', hkeys⟩, hdata⟩, hphase⟩, he⟩

/-- In READY the image lies within the pixels, so a pass over its pixels starts within them. -/
theorem Live.pixels (h : Live full .quantOp .ready s) (hf : full) :
    PixWithin s.cfg.pixCap s s ∧ pixelCount s ≤ s.cfg.pixCap := by
  obtain ⟨⟨hd, ⟨_, hready, _⟩, _⟩, _⟩ := h.2 hf
  have hfit := hd.image_fits (hready rfl)
  obtain ⟨⟨hwf, _⟩, ⟨hkeys, _⟩, _⟩ := hd
  exact ⟨⟨PixOnly.refl s, hwf, hkeys⟩, hfit.1⟩

theorem runQuant_legal (h : Live full .quantOp .ready s) : Legal full (runQuant s) := by
  unfold runQuant
  split
  · refine Live.complete_legal (op := .quantOp) (q := .ready) (h.pixPass (plainPass_pixOnly _ s) fun hf => ?_) (.inr rfl)
    obtain ⟨hstart, hcap⟩ := h.pixels hf
    exact foldl_keeps (PixWithin s.cfg.pixCap s) plainPixel _
      (fun p hp t ht => ht.writeScaledPixel (by have := List.mem_range.1 hp; omega) _) s hstart
  · have hpass : Live full .quantOp .ready (runAll diffusePixel (List.range (pixelCount s)) s).last := by
      refine h.pixPass (diffusePass_pixOnly _ s) fun hf => ?_
      obtain ⟨hstart, hcap⟩ := h.pixels hf
      exact runAll_keeps (PixWithin s.cfg.pixCap s) diffusePixel _
        (fun p hp t ht => ht.diffusePixel hcap (List.mem_range.1 hp)) s hstart
    split
    · rename_i u heq
      rw [heq] at hpass
      exact Live.complete_legal (s := u) hpass (.inr rfl)
    · rename_i u heq
      rw [heq] at hpass
      exact Live.localError (s := u) hpass (.inr rfl) _ rfl
  · refine Live.complete_legal (op := .quantOp) (q := .ready) (h.pixPass (orderedPass_pixOnly _ s) fun hf => ?_)
      (.inr rfl)
    obtain ⟨hstart, hcap⟩ := h.pixels hf
    exact foldl_keeps (PixWithin s.cfg.pixCap s) orderedPixel _
      (fun p hp t ht => ht.writeScaledPixel (by have := List.mem_range.1 hp; omega) _) s hstart
  · exact h.complete_legal (.inr rfl)

theorem runPack_legal (h : Live full .packOp .ready s) : Legal full (runPack s) := by
  unfold runPack
  rw [show packPlanes s = _ from packPlanes_planesOnly s]
  refine Running.complete_legal (op := .packOp) (q := .ready) h.1 (.inr rfl) fun hf => ?_
  obtain ⟨⟨hd, ⟨hphase, hready, _⟩, hu⟩, _⟩ := h.2 hf
  have hres := hready rfl
  obtain ⟨_, hfit⟩ := hd.image_fits hres
  obtain ⟨⟨hpix, hplane⟩, ⟨hpixKeys, hplaneKeys⟩, hcfg, hdev, hresolution, _⟩ := hd
  obtain ⟨_, hwf, hkeys⟩ := packPlanes_within hplane hplaneKeys hfit
  have ⟨_, _, _, hplaneCap, _⟩ := hcfg
  refine ⟨⟨⟨hpix, hwf⟩, ⟨hpixKeys, hkeys⟩, hcfg, hdev, hresolution, fun _ => ⟨hres, ?_⟩⟩,
    ⟨hphase, hready, fun _ => rfl⟩, hu⟩
  show BitVec.toNat (BitVec.ofNat 24 (planeBytes s.resW.toNat s.resH.toNat)) = planeBytes s.resW.toNat s.resH.toNat
  rw [BitVec.toNat_ofNat]
  omega

/-- The invariant does not depend on what the accumulators within the capacity hold. -/
theorem Legal.pixWithin (h : Legal full s) (honly : PixOnly s t) (hwithin : full → PixWithin s.cfg.pixCap s t) :
    Legal full t := by
  rw [show t = _ from honly]
  refine ⟨h.1, fun hf => ?_⟩
  obtain ⟨ht, hfl, ⟨_, hplane⟩, ⟨_, hplaneKeys⟩, hs, hx⟩ := h.2 hf
  obtain ⟨_, hwf, hkeys⟩ := hwithin hf
  exact ⟨ht, hfl, ⟨hwf, hplane⟩, ⟨hkeys, hplaneKeys⟩, hs, hx⟩

/-- A host write to a pixel within the capacity (20_memory.md R77). -/
theorem loadPixel_legal (h : Legal full s) {p : Nat} (hp : p < s.cfg.pixCap) (d : Word) :
    Legal full (loadPixel s p d) := by
  refine h.pixWithin (writeScaledPixel_pixOnly s p _) fun hf => PixWithin.writeScaledPixel ?_ hp _
  obtain ⟨_, _, ⟨hwf, _⟩, ⟨hkeys, _⟩, _⟩ := h.2 hf
  exact ⟨PixOnly.refl s, hwf, hkeys⟩

end Sys2Proof.Machine
end

section
/-! Every event keeps the control part and the invariant: the commands, the host accesses, and the dispatch on the
wait point (40_command.md, 60_exceptions.md R245 to R249). -/

namespace Sys2Proof.Machine

variable {full : Prop} {op : CurOp} {q : SeqState} {s : State}

/-! ### Commands (40_command.md R120 to R129) -/

/-- What the words written to `CMD` run. -/
def hostCommands : List (State → State) :=
  [complete, acceptOpen, acceptQuant, acceptPack, acceptXfer, acceptClose, loadKernel, raiseError .illegalCommand]

/-- Every command word presents a host command, and is never refused. -/
theorem exec_decodeCommand (w : Word) (s : State) :
    ∃ command ∈ hostCommands, exec (decodeCommand w) s = .next (present command s) := by
  unfold decodeCommand
  split <;> exact ⟨_, by simp [hostCommands], rfl⟩

/-- A presented command is dropped, or starts from an idle unit. -/
theorem present_legal (h : Legal full s) {command : State → State}
    (hidle : ∀ q u, Live full .none q u → q = .disconnected ∨ q = .ready → Legal full (command u)) :
    Legal full (present command s) := by
  cases hb : s.status.busy with
  | true => rw [present_busy command s hb]; exact h
  | false =>
    obtain ⟨hlive, hq, _⟩ := h.cleared hb
    rw [present_idle command s hb]
    exact hidle _ _ hlive hq

/-- Acceptance of a long command (40_command.md R122). -/
theorem Live.accept (h : Live full .none q s) (hop : op ≠ .none) (hq : q = .disconnected ∨ q = .ready) :
    Live full op q (accept op s) := by
  obtain ⟨_, hseq, _, hsub, hframer⟩ := h.1
  refine ⟨⟨rfl, hseq, by simp [Machine.accept, hop], hsub, hframer⟩, fun hf => ?_⟩
  obtain ⟨hd, he, _⟩ := h.2 hf
  exact ⟨hd, he, fun _ ht => by rcases hq with rfl | rfl <;> cases ht⟩

theorem Live.ready_of_imageReady (h : Live full op q s) (hi : imageReady s = true) : q = .ready := by
  simp only [imageReady, Bool.and_eq_true, decide_eq_true_eq] at hi
  exact h.seqState.symm.trans hi.1

theorem acceptOpen_legal (h : Live full .none q s) (hq : q = .disconnected ∨ q = .ready) :
    Legal full (acceptOpen s) := by
  unfold acceptOpen
  split
  · rename_i hdis
    obtain ⟨⟨_, hseq, _, hsub, hframer⟩, hdata⟩ := h
    obtain rfl : q = .disconnected := hseq.symm.trans hdis
    refine Live.await (op := .openOp) (q := .connecting) ⟨⟨rfl, rfl, by simp [accept], hsub, hframer⟩, fun hf => ?_⟩
      (by simp) rfl rfl (by simp)
    obtain ⟨⟨⟨hm, hc, hcfg, _⟩, _, hu⟩, he, _⟩ := hdata hf
    exact ⟨⟨⟨hm, hc, hcfg, by simp [accept, clearSession], by simp [accept, clearSession],
      by simp [accept, clearSession]⟩, ⟨by simp [accept, clearSession], by simp, by simp⟩, hu⟩,
      fun _ => he (by simp), by simp⟩
  · exact h.localError hq _ rfl

theorem acceptQuant_legal (h : Live full .none q s) (hq : q = .disconnected ∨ q = .ready) :
    Legal full (acceptQuant s) := by
  unfold acceptQuant
  split
  · exact h.localError hq _ rfl
  · rename_i hi
    obtain rfl := h.ready_of_imageReady (by simpa using hi)
    split
    · exact h.localError hq _ rfl
    · split
      · exact h.localError hq _ rfl
      · exact Live.await (op := .quantOp) (q := .ready) (h.accept (by simp) hq) (by simp) rfl rfl (by simp)

theorem acceptPack_legal (h : Live full .none q s) (hq : q = .disconnected ∨ q = .ready) :
    Legal full (acceptPack s) := by
  unfold acceptPack
  split
  · exact h.localError hq _ rfl
  · rename_i hi
    obtain rfl := h.ready_of_imageReady (by simpa using hi)
    exact Live.await (op := .packOp) (q := .ready) (h.accept (by simp) hq) (by simp) rfl rfl (by simp)

/-- XFER past its checks (44_transfer.md R200). -/
theorem beginTransfer_legal (h : Live full .xferOp .transferring s) (htu : ¬s.tu.toNat ≤ hdrOverhead)
    (hil : s.interleave ≠ 0) : Legal full (beginTransfer s) := by
  have hx : TransferSetup { s with nplanes := if s.packedMode = .tri then 2 else 1, cs := s.tu - 1 } :=
    ⟨by unfold hdrOverhead at htu; show 2 ≤ s.tu.toNat; omega, rfl, hil, rfl⟩
  unfold beginTransfer
  dsimp only
  split
  · exact Live.transfer_legal h rfl (fun _ ht => by cases ht) (fun _ => hx)
      fun _ hw => by simp [issueClear, issueBare] at hw
  · exact startPlaneB_legal
      (s := { s with nplanes := if s.packedMode = .tri then 2 else 1, cs := s.tu - 1 }) h fun _ => hx

theorem acceptXfer_legal (h : Live full .none q s) (hq : q = .disconnected ∨ q = .ready) :
    Legal full (acceptXfer s) := by
  unfold acceptXfer
  split
  · exact h.localError hq _ rfl
  · rename_i hi
    obtain ⟨himage, hplanes⟩ : imageReady s = true ∧ s.status.planesValid = true := by simpa using hi
    obtain rfl := h.ready_of_imageReady himage
    have hlive : Live full .xferOp .transferring { accept .xferOp s with seqState := .transferring } := by
      obtain ⟨⟨hop, _, hbusy, hsub, hframer⟩, hdata⟩ := h.accept (op := .xferOp) (by simp) hq
      refine ⟨⟨hop, rfl, hbusy, hsub, hframer⟩, fun hf => ?_⟩
      obtain ⟨⟨hd, _, hu⟩, he, _⟩ := hdata hf
      exact ⟨⟨hd, ⟨by simp, by simp, fun _ => hplanes⟩, hu⟩, fun _ => he (by simp), by simp⟩
    dsimp only
    split
    · exact hlive.sessionError (.inr rfl) _ rfl
    · split
      · exact hlive.sessionError (.inr rfl) _ rfl
      · exact beginTransfer_legal hlive ‹_› ‹_›

theorem acceptClose_legal (h : Live full .none q s) (hq : q = .disconnected ∨ q = .ready) :
    Legal full (acceptClose s) := by
  unfold acceptClose
  split
  · have hlive := h.accept (op := .closeOp) (by simp) hq
    refine hlive.1.teardown_legal (.inr (.inr rfl)) fun hf => ?_
    obtain ⟨⟨hd, _, hu⟩, _⟩ := hlive.2 hf
    exact ⟨hd, hu, by simp⟩
  · exact h.localError hq _ rfl

theorem loadKernel_legal (h : Live full .none q s) (hq : q = .disconnected ∨ q = .ready) :
    Legal full (loadKernel s) := by
  unfold loadKernel
  split
  · exact h.localError hq _ rfl
  · exact Live.complete_legal (op := .none) (q := q) h hq

theorem hostCommand_legal {command : State → State} (hc : command ∈ hostCommands) (h : Live full .none q s)
    (hq : q = .disconnected ∨ q = .ready) : Legal full (command s) := by
  simp only [hostCommands, List.mem_cons, List.not_mem_nil, or_false] at hc
  rcases hc with rfl | rfl | rfl | rfl | rfl | rfl | rfl | rfl
  · exact h.complete_legal hq
  · exact acceptOpen_legal h hq
  · exact acceptQuant_legal h hq
  · exact acceptPack_legal h hq
  · exact acceptXfer_legal h hq
  · exact acceptClose_legal h hq
  · exact loadKernel_legal h hq
  · exact h.localError hq _ rfl

/-! ### Host accesses (20_memory.md R80, R82) -/

/-- No register write gives the unit another position or another flag than the write-one-to-clear does; INTERLEAVE, which
a transfer depends on, is not written while BUSY. -/
theorem writeReg_legal (h : Legal full s) (d : Word) (r : Reg)
    (hb : s.status.busy = true → writableWhileBusy r = true) : Legal full (writeReg d s r) := by
  cases r with
  | status =>
    refine ⟨h.1, fun hf => ?_⟩
    obtain ⟨ht, ⟨hbusy, hdone, herr, hno⟩, hrest⟩ := h.2 hf
    refine ⟨ht, ⟨fun hb' => ?_, fun hd => hdone ?_, fun he => herr ?_, hno⟩, hrest⟩
    · obtain ⟨hd, he⟩ := hbusy hb'
      exact ⟨by simp [writeReg, statusClear, hd], by simp [writeReg, statusClear, he]⟩
    · simp only [writeReg, statusClear, Bool.and_eq_true] at hd
      exact hd.1
    · simp only [writeReg, statusClear, Bool.and_eq_true] at he
      exact he.1
  | interleave =>
    have hidle : s.status.busy = false := by
      by_contra hne
      exact absurd (hb (by simpa using hne)) (by simp [writableWhileBusy])
    obtain ⟨_, hq, _⟩ := h.cleared hidle
    refine ⟨h.1, fun hf => ?_⟩
    obtain ⟨hti, hfl, hm, hc, hs, _⟩ := h.2 hf
    refine ⟨hti, hfl, hm, hc, hs, fun ht => ?_⟩
    change s.seqState = .transferring at ht
    simp [ht] at hq
  | _ => exact h

theorem onHostWrite_legal (h : Legal full s) (addr d : Word) {t : State} (ht : onHostWrite addr d s = .next t) :
    Legal full t := by
  unfold onHostWrite at ht
  split at ht
  · rename_i r _
    split at ht
    · obtain ⟨command, hc, heq⟩ := exec_decodeCommand d s
      rw [heq] at ht
      cases ht
      exact present_legal h fun q u hu hq => hostCommand_legal hc hu hq
    · split at ht
      · cases ht; exact h
      · rename_i hw
        cases ht
        exact writeReg_legal h d r fun hb => by simpa [hb] using hw
  · rename_i p hp
    split at ht <;> cases ht
    · exact h
    · obtain ⟨_, hlt, _⟩ := (hostTarget_pixel_iff p).1 hp
      exact loadPixel_legal h hlt d
  · cases ht; exact h
  · cases ht; exact h

theorem onHostRead_legal (h : Legal full s) (addr : Word) : Legal full (onHostRead addr s) := by
  have hwindow : ∀ word, Legal full (readWindow word s) := fun word => by
    unfold readWindow
    split <;> exact h
  unfold onHostRead
  split
  · exact h
  · exact hwindow _
  · exact hwindow _
  · exact h

/-! ### Responses, ticks, the engine and reset -/

/-- At the wait points of teardown a command that had a session is being torn down. -/
theorem Legal.live_teardown (h : Legal full s) (hw : s.wait = .unsubscribe ∨ s.wait = .disconnect) :
    Live full s.curOp .teardown s ∧ (s.curOp = .openOp ∨ s.curOp = .xferOp ∨ s.curOp = .closeOp) := by
  have hpos := h.position
  have hpos' : (s.curOp = .openOp ∨ s.curOp = .xferOp ∨ s.curOp = .closeOp) ∧ s.seqState = .teardown := by
    rcases hw with hw | hw <;> simp [hw, legalPositions] at hpos <;> tauto
  have hl := h.live_at (by rcases hw with hw | hw <;> simp [hw])
  rw [hpos'.2] at hl
  exact ⟨hl, hpos'.1⟩

theorem onLinkRsp_legal (h : Legal full s) (ok : Bool) (maxpl : Nat) : Legal full (onLinkRsp ok maxpl s) := by
  unfold onLinkRsp
  split
  · exact onConnectRsp_legal (h.live_only ‹_› (by simp) (by simp [legalPositions])) ok maxpl
  · exact onSubscribeRsp_legal (h.live_only ‹_› (by simp) (by simp [legalPositions])) ok
  · exact onInitAck_legal (h.live_only ‹_› (by simp) (by simp [legalPositions])) ok
  · rename_i hw
    obtain ⟨hl, hx, _⟩ := h.live_transfer (by simp [hw])
    exact onClearAck_legal hl hx ok
  · rename_i hw
    obtain ⟨hl, hx, hp⟩ := h.live_transfer (by simp [hw])
    exact onChunkAck_legal hl hx (fun hf => hp hf (.inl hw)) ok
  · exact onRefreshAck_legal (h.live_only ‹_› (by simp) (by simp [legalPositions])) ok
  · obtain ⟨hl, hop⟩ := h.live_teardown (.inl ‹_›)
    exact onUnsubscribeRsp_legal hl hop ok
  · obtain ⟨hl, _⟩ := h.live_teardown (.inr ‹_›)
    exact onDisconnectRsp_legal hl ok
  all_goals exact h

theorem onTick_legal (h : Legal full s) : Legal full (onTick s) := by
  unfold onTick
  split
  · exact h.countTick (negotiationTimeout_legal (s := { s with timer := s.timer - 1 }) (h.live_negotiate ‹_›))
  · rename_i hw
    obtain ⟨hl, hx, _⟩ := h.live_transfer (by simp [hw])
    exact h.countTick (startPlaneB_legal (s := { s with timer := s.timer - 1 }) hl hx)
  · rename_i hw
    obtain ⟨hl, hx, hp⟩ := h.live_transfer (by simp [hw])
    refine h.countTick (continueTransfer_legal (s := { s with timer := s.timer - 1 }) hl hx fun hf hlt => ?_)
    have hplane := hp hf (.inr hw)
    have ⟨_, _, _, _, _, hil, _⟩ := hplane
    exact hplane.ready (hil hw) hlt
  · have hl : Live full .xferOp .refreshing s := h.live_only ‹_› (by simp) (by simp [legalPositions])
    exact h.countTick (Live.xfer_teardown (q := .refreshing) (s := { s with timer := s.timer - 1 }) hl)
  all_goals exact h

theorem onEngine_legal (h : Legal full s) : Legal full (onEngine s) := by
  unfold onEngine
  split
  · rename_i hw
    have hl := h.live_at (by simp [hw])
    have hpos := h.position
    have hready : s.seqState = .ready := by
      simp [hw, legalPositions] at hpos
      tauto
    rw [hready] at hl
    split
    · rename_i hop
      rw [hop] at hl
      exact runQuant_legal hl
    · rename_i hop
      rw [hop] at hl
      exact runPack_legal hl
    all_goals exact h
  · exact h

/-- The reset input leaves the machine as after power-on, with its parameters (70_reset_and_hazards.md R260, R262). -/
theorem onReset_legal (h : Legal full s) : Legal full (onReset s) := by
  refine ⟨⟨rfl, by simp [onReset, State.reset, Status.atReset], rfl, rfl⟩, fun hf => ?_⟩
  obtain ⟨_, _, _, _, ⟨hcfg, _⟩, _⟩ := h.2 hf
  have hflags : (onReset s).status = Status.atReset := rfl
  have hseq : (onReset s).seqState = .disconnected := rfl
  refine ⟨fun ht => (by cases ht), ?_, ⟨rfl, rfl⟩, ⟨rfl, rfl⟩, ⟨hcfg, ?_⟩, fun ht => (by cases ht)⟩
  · simp [FlagsOk, hflags, hseq, Status.atReset]
  · simp [hflags, hseq, Status.atReset]

theorem onEvent_legal (h : Legal full s) (e : Event) {t : State} (ht : onEvent e s = .next t) : Legal full t := by
  cases e with
  | hostWrite addr data => exact onHostWrite_legal h addr data ht
  | hostRead addr => cases ht; exact onHostRead_legal h addr
  | linkRsp ok maxpl => cases ht; exact onLinkRsp_legal h ok maxpl
  | notify bytes => cases ht; exact onNotify_legal h bytes
  | tick => cases ht; exact onTick_legal h
  | engine => cases ht; exact onEngine_legal h
  | resetInput => cases ht; exact onReset_legal h

/-- Every step keeps the control part, and the whole invariant where that is claimed. -/
theorem step_legal {t : State} (h : Legal full s) (ht : step s = .next t) : Legal full t := by
  obtain ⟨_, _, _, _, hframer⟩ := h.running
  rcases step_cases s t hframer ht with ⟨_, rfl⟩ | ⟨e, rest, _, hev⟩
  · exact h
  · exact onEvent_legal (s := { s with inputs := rest }) h e hev

/-- Settles O59: the control part is kept whatever the data holds. -/
theorem controlKept : Obligations.ControlKept := fun s t h ht =>
  (legal_false_iff t).1 (step_legal ((legal_false_iff s).2 h) ht)

/-- Settles O60: the control part together with the timer, the flags, the memories, the session and the transfer. -/
theorem invKept : Obligations.InvKept := fun s t h ht =>
  (legal_true_iff t).1 (step_legal ((legal_true_iff s).2 h) ht)

end Sys2Proof.Machine
end

section
/-! Who writes the two memories (10_state.md R47, R48, R55; 20_memory.md R82): every rule but the passes of the compute
engine, the pixel window and reset leaves both memories, the parameters and the framer's own input as they are. -/

namespace Sys2Proof.Machine

variable {s t u : State}

/-- `t` holds the memories, the parameters and the framer's own input of `s`. -/
def SameStore (s t : State) : Prop :=
  t.pix = s.pix ∧ t.planeMem = s.planeMem ∧ t.cfg = s.cfg ∧ t.framer = s.framer

theorem SameStore.refl (s : State) : SameStore s s := ⟨rfl, rfl, rfl, rfl⟩

theorem SameStore.trans (h : SameStore s t) (h' : SameStore t u) : SameStore s u := by
  obtain ⟨hpix, hplane, hcfg, hframer⟩ := h
  obtain ⟨hpix', hplane', hcfg', hframer'⟩ := h'
  exact ⟨hpix'.trans hpix, hplane'.trans hplane, hcfg'.trans hcfg, hframer'.trans hframer⟩

/-! ### The shared operations -/

theorem complete_sameStore (s : State) : SameStore s (complete s) := by simp [SameStore]

theorem recordError_sameStore (code : ErrCode) (s : State) : SameStore s (recordError code s) := by simp [SameStore]

theorem startTeardown_sameStore (s : State) : SameStore s (startTeardown s) := ⟨rfl, rfl, rfl, rfl⟩

theorem raiseError_sameStore (code : ErrCode) (s : State) : SameStore s (raiseError code s) := by
  have hrec := recordError_sameStore code s
  unfold raiseError
  split
  · exact SameStore.refl s
  · exact hrec.trans (complete_sameStore _)
  · exact hrec.trans (startTeardown_sameStore _)
  · exact hrec

theorem startTimer_sameStore (delay : Half) (w : Wait) {goOn : State → State} (s : State)
    (hgo : ∀ u, SameStore u (goOn u)) : SameStore s (startTimer delay w goOn s) := by
  unfold startTimer
  split
  · exact SameStore.trans (t := { s with timer := delay }) (SameStore.refl s) (hgo _)
  · exact SameStore.refl s

theorem countTick_sameStore {goOn : State → State} (s : State) (hgo : ∀ u, SameStore u (goOn u)) :
    SameStore s (countTick goOn s) := by
  unfold countTick
  split
  · exact SameStore.trans (t := { s with timer := s.timer - 1 }) (SameStore.refl s) (hgo _)
  · exact SameStore.refl s

theorem present_sameStore {command : State → State} (s : State) (hc : ∀ u, SameStore u (command u)) :
    SameStore s (present command s) := by
  cases hb : s.status.busy with
  | true => rw [present_busy command s hb]; exact SameStore.refl s
  | false =>
    rw [present_idle command s hb]
    exact SameStore.trans (t := cleared s) (SameStore.refl s) (hc _)

/-! ### The session (43_session.md) -/

theorem resolve_sameStore (s : State) : SameStore s (resolve s) := by
  unfold resolve
  split
  · exact raiseError_sameStore _ s
  · rename_i w h _
    split
    · exact complete_sameStore
        { s with resW := w, resH := h, status := { s.status with resValid := true }, seqState := .ready }
    · exact raiseError_sameStore _ s

theorem negotiationTimeout_sameStore (s : State) : SameStore s (negotiationTimeout s) :=
  resolve_sameStore { s with
    status := { s.status with negTo := true }, tu := if s.status.mtuRcvd then s.tu else s.linkmax }

theorem recordNotification_sameStore (bytes : List Byte) (s : State) : SameStore s (recordNotification bytes s) := by
  obtain ⟨_, _, _, _, _, _, _, _, _, _, _, heq⟩ := recordNotification_frame bytes s
  rw [heq]
  exact SameStore.refl s

theorem onNotify_sameStore (bytes : List Byte) (s : State) : SameStore s (onNotify bytes s) := by
  have hrec := recordNotification_sameStore bytes s
  unfold onNotify
  split
  · exact SameStore.refl s
  · split
    · exact hrec.trans (resolve_sameStore _)
    · exact hrec

theorem noteTeardownRsp_sameStore (ok : Bool) (s : State) : SameStore s (noteTeardownRsp ok s) := by
  unfold noteTeardownRsp
  split
  · exact SameStore.refl s
  · exact raiseError_sameStore _ s

/-! ### The transfer (44_transfer.md) -/

theorem sendLoop_sameStore (n : Nat) : ∀ s, SameStore s (sendLoop n s) := by
  induction n with
  | zero => exact SameStore.refl
  | succ n ih =>
    intro s
    have hsend : SameStore s (sendNextChunk s) := SameStore.refl s
    unfold sendLoop
    split
    · exact hsend
    · exact hsend.trans (ih _)

theorem runPlane_sameStore {atEnd : State → State} (s : State) (hend : ∀ u, SameStore u (atEnd u)) :
    SameStore s (runPlane atEnd s) := by
  unfold runPlane
  split
  · exact hend s
  · exact sendLoop_sameStore _ s

theorem startRefresh_sameStore (s : State) : SameStore s (startRefresh s) := SameStore.refl s

theorem planeEnd_sameStore (s : State) : SameStore s (planeEnd s) := by
  unfold planeEnd
  split
  · exact runPlane_sameStore (loadPlane .r s) startRefresh_sameStore
  · exact startRefresh_sameStore s

theorem startPlaneB_sameStore (s : State) : SameStore s (startPlaneB s) :=
  runPlane_sameStore (loadPlane .b s) planeEnd_sameStore

theorem continueTransfer_sameStore (s : State) : SameStore s (continueTransfer s) := by
  unfold continueTransfer
  split
  · exact sendLoop_sameStore _ s
  · exact planeEnd_sameStore s

theorem beginTransfer_sameStore (s : State) : SameStore s (beginTransfer s) := by
  unfold beginTransfer
  dsimp only
  split
  · exact SameStore.refl s
  · exact startPlaneB_sameStore { s with nplanes := if s.packedMode = .tri then 2 else 1, cs := s.tu - 1 }

/-! ### Commands, responses and ticks -/

/-- No command writes a memory when it is accepted. -/
theorem hostCommand_sameStore {command : State → State} (hc : command ∈ hostCommands) (s : State) :
    SameStore s (command s) := by
  simp only [hostCommands, List.mem_cons, List.not_mem_nil, or_false] at hc
  rcases hc with rfl | rfl | rfl | rfl | rfl | rfl | rfl | rfl
  · exact complete_sameStore s
  · unfold acceptOpen
    split
    · exact SameStore.refl s
    · exact raiseError_sameStore _ s
  · unfold acceptQuant
    repeat' split
    · exact raiseError_sameStore _ s
    · exact raiseError_sameStore _ s
    · exact raiseError_sameStore _ s
    · exact SameStore.refl s
  · unfold acceptPack
    split
    · exact raiseError_sameStore _ s
    · exact SameStore.refl s
  · unfold acceptXfer
    dsimp only
    repeat' split
    · exact raiseError_sameStore _ s
    · exact raiseError_sameStore _ { accept .xferOp s with seqState := .transferring }
    · exact raiseError_sameStore _ { accept .xferOp s with seqState := .transferring }
    · exact beginTransfer_sameStore { accept .xferOp s with seqState := .transferring }
  · unfold acceptClose
    split
    · exact startTeardown_sameStore (accept .closeOp s)
    · exact raiseError_sameStore _ s
  · unfold loadKernel
    split
    · exact raiseError_sameStore _ s
    · rename_i k _
      exact complete_sameStore { s with kanchor := k.anchor, kdiv := k.divisor, kw := k.weights }
  · exact raiseError_sameStore _ s

theorem onInitAck_sameStore (ok : Bool) (s : State) : SameStore s (onInitAck ok s) := by
  unfold onInitAck
  repeat' split
  · exact raiseError_sameStore _ s
  · exact resolve_sameStore s
  · exact startTimer_sameStore _ _ s negotiationTimeout_sameStore

theorem onLinkRsp_sameStore (ok : Bool) (maxpl : Nat) (s : State) : SameStore s (onLinkRsp ok maxpl s) := by
  unfold onLinkRsp
  split
  · unfold onConnectRsp
    split
    · exact SameStore.refl s
    · exact raiseError_sameStore _ s
  · unfold onSubscribeRsp
    split
    · exact SameStore.refl s
    · exact raiseError_sameStore _ s
  · exact onInitAck_sameStore ok s
  · unfold onClearAck
    split
    · exact raiseError_sameStore _ s
    · exact startTimer_sameStore _ _ s startPlaneB_sameStore
  · unfold onChunkAck
    split
    · exact raiseError_sameStore _ s
    · exact startTimer_sameStore _ _ { s with ilCnt := s.interleave } continueTransfer_sameStore
  · unfold onRefreshAck
    split
    · exact raiseError_sameStore _ s
    · exact startTimer_sameStore _ _ s startTeardown_sameStore
  · exact noteTeardownRsp_sameStore ok s
  · have hnote := noteTeardownRsp_sameStore ok s
    unfold onDisconnectRsp
    dsimp only
    generalize noteTeardownRsp ok s = t at hnote
    exact hnote.trans (complete_sameStore
      { t with seqState := .disconnected, status := { t.status with resValid := false, planesValid := false } })
  all_goals exact SameStore.refl s

theorem onTick_sameStore (s : State) : SameStore s (onTick s) := by
  unfold onTick
  split
  · exact countTick_sameStore s negotiationTimeout_sameStore
  · exact countTick_sameStore s startPlaneB_sameStore
  · exact countTick_sameStore s continueTransfer_sameStore
  · exact countTick_sameStore s startTeardown_sameStore
  all_goals exact SameStore.refl s

theorem onHostRead_sameStore (addr : Word) (s : State) : SameStore s (onHostRead addr s) := by
  have hwindow : ∀ word, SameStore s (readWindow word s) := fun word => by
    unfold readWindow
    split <;> exact SameStore.refl s
  unfold onHostRead
  split
  · exact SameStore.refl s
  · exact hwindow _
  · exact hwindow _
  · exact SameStore.refl s

/-! ### The writers -/

/-- A host write leaves both memories, or writes a pixel while BUSY is 0. -/
theorem onHostWrite_store_cases {addr d : Word} (h : onHostWrite addr d s = .next t) :
    SameStore s t ∨
      ∃ q, hostTarget s.cfg addr = .pixel q ∧ s.status.busy = false ∧ t = loadPixel s q d := by
  unfold onHostWrite at h
  split at h
  · rename_i r _
    left
    split at h
    · obtain ⟨command, hc, heq⟩ := exec_decodeCommand d s
      rw [heq] at h
      cases h
      exact present_sameStore s fun u => hostCommand_sameStore hc u
    · split at h <;> cases h
      · exact SameStore.refl s
      · cases r <;> exact SameStore.refl s
  · rename_i q hq
    split at h
    · cases h
      exact .inl (SameStore.refl s)
    · rename_i hb
      cases h
      exact .inr ⟨q, hq, by simpa using hb, rfl⟩
  · cases h
    exact .inl (SameStore.refl s)
  · cases h
    exact .inl (SameStore.refl s)

/-- QUANT's pass leaves plane memory, the parameters and the framer's own input. -/
theorem runQuant_frame (s : State) :
    (runQuant s).planeMem = s.planeMem ∧ (runQuant s).cfg = s.cfg ∧ (runQuant s).framer = s.framer := by
  have hpass : ∀ t u : State, PixOnly s t → SameStore t u →
      u.planeMem = s.planeMem ∧ u.cfg = s.cfg ∧ u.framer = s.framer := by
    intro t u ht ⟨_, hplane, hcfg, hframer⟩
    rw [hplane, hcfg, hframer, show t = _ from ht]
    exact ⟨rfl, rfl, rfl⟩
  unfold runQuant
  split
  · exact hpass _ _ (plainPass_pixOnly _ s) (complete_sameStore _)
  · have hd := diffusePass_pixOnly (List.range (pixelCount s)) s
    split <;> rename_i v heq <;> rw [heq] at hd
    · exact hpass v _ hd (complete_sameStore v)
    · exact hpass v _ hd (raiseError_sameStore _ v)
  · exact hpass _ _ (orderedPass_pixOnly _ s) (complete_sameStore _)
  · exact hpass s _ (PixOnly.refl s) (complete_sameStore s)

/-- PACK's pass leaves pixel memory, the parameters and the framer's own input. -/
theorem runPack_frame (s : State) :
    (runPack s).pix = s.pix ∧ (runPack s).cfg = s.cfg ∧ (runPack s).framer = s.framer := by
  unfold runPack
  rw [show packPlanes s = _ from packPlanes_planesOnly s]
  simp

/-- What an event other than reset can do to the memories. -/
theorem onEvent_store_cases {e : Event} (h : onEvent e s = .next t) (hreset : e ≠ .resetInput) :
    SameStore s t ∨
    (∃ addr d q, e = .hostWrite addr d ∧ hostTarget s.cfg addr = .pixel q ∧ s.status.busy = false ∧
      t = loadPixel s q d) ∨
    (e = .engine ∧ s.wait = .engine ∧ s.curOp = .quantOp ∧ t = runQuant s) ∨
    (e = .engine ∧ s.wait = .engine ∧ s.curOp = .packOp ∧ t = runPack s) := by
  cases e with
  | hostWrite addr d =>
    rcases onHostWrite_store_cases h with hsame | ⟨q, hq, hb, ht⟩
    · exact .inl hsame
    · exact .inr (.inl ⟨addr, d, q, rfl, hq, hb, ht⟩)
  | hostRead addr => cases h; exact .inl (onHostRead_sameStore addr s)
  | linkRsp ok maxpl => cases h; exact .inl (onLinkRsp_sameStore ok maxpl s)
  | notify bytes => cases h; exact .inl (onNotify_sameStore bytes s)
  | tick => cases h; exact .inl (onTick_sameStore s)
  | engine =>
    cases h
    unfold onEngine
    split
    · rename_i hw
      split
      · exact .inr (.inr (.inl ⟨rfl, hw, ‹_›, rfl⟩))
      · exact .inr (.inr (.inr ⟨rfl, hw, ‹_›, rfl⟩))
      all_goals exact .inl (SameStore.refl s)
    · exact .inl (SameStore.refl s)
  | resetInput => exact absurd rfl hreset

/-- Settles O55. -/
theorem memoryWriters : Obligations.MemoryWriters := by
  intro s t e hframer hstep hreset
  rw [step_deliver s e hframer] at hstep
  rcases onEvent_store_cases hstep hreset with
    ⟨hpix, hplane, _⟩ | ⟨addr, d, q, he, hq, hb, rfl⟩ | ⟨he, hw, hop, rfl⟩ | ⟨he, hw, hop, rfl⟩
  · exact ⟨fun hne => absurd hpix hne, fun hne => absurd hplane hne⟩
  · exact ⟨fun _ => .inl ⟨addr, d, q, he, hq, hb⟩, fun hne => absurd rfl hne⟩
  · exact ⟨fun _ => .inr ⟨he, hw, hop⟩, fun hne => absurd (runQuant_frame s).1 hne⟩
  · exact ⟨fun hne => absurd (runPack_frame s).1 hne, fun _ => ⟨he, hw, hop⟩⟩

end Sys2Proof.Machine
end

section
/-! Host accesses (20_memory.md R70 to R82): what a read answers, what a pixel write loads, what BUSY keeps out, and
that every step gives a next state (R88, 60_exceptions.md R249). -/

namespace Sys2Proof.Machine

variable {s t : State} {addr d : Word}

/-! ### The bytes of a word (20_memory.md R76) -/

theorem byteOf_wordOf_zero (b0 b1 b2 b3 : Byte) : byteOf (wordOf b0 b1 b2 b3) 0 = b0 :=
  BitVec.extractLsb'_append_eq_right

theorem byteOf_wordOf_one (b0 b1 b2 b3 : Byte) : byteOf (wordOf b0 b1 b2 b3) 1 = b1 := by
  unfold byteOf wordOf
  rw [BitVec.extractLsb'_append_eq_of_le (by decide)]
  exact BitVec.extractLsb'_append_eq_right

theorem byteOf_wordOf_two (b0 b1 b2 b3 : Byte) : byteOf (wordOf b0 b1 b2 b3) 2 = b2 := by
  unfold byteOf wordOf
  rw [BitVec.extractLsb'_append_eq_of_le (by decide), BitVec.extractLsb'_append_eq_of_le (by decide)]
  exact BitVec.extractLsb'_append_eq_right

theorem byteOf_wordOf_three (b0 b1 b2 b3 : Byte) : byteOf (wordOf b0 b1 b2 b3) 3 = b3 := by
  unfold byteOf wordOf
  rw [BitVec.extractLsb'_append_eq_of_le (by decide), BitVec.extractLsb'_append_eq_of_le (by decide),
    BitVec.extractLsb'_append_eq_of_le (by decide)]
  exact BitVec.extractLsb'_eq_self

theorem toNat_byteOf (w : Word) (j : Nat) : (byteOf w j).toNat = w.toNat / 2 ^ (8 * j) % 256 := by
  rw [byteOf, BitVec.extractLsb'_toNat, Nat.shiftRight_eq_div_pow]

theorem wordOf_lowBytes (w : Word) : wordOf (byteOf w 0) (byteOf w 1) (byteOf w 2) 0 = w &&& 0x00FFFFFF#32 := by
  refine BitVec.eq_of_getLsbD_eq fun i hi => ?_
  simp only [wordOf, byteOf, BitVec.getLsbD_append, BitVec.getLsbD_extractLsb', BitVec.getLsbD_and]
  interval_cases i <;> simp

/-! ### The view of an accumulator (41_quantizer.md R131) -/

theorem view_bounds (a : Int) : 0 ≤ view a ∧ view a ≤ 255 := by
  unfold view clamp
  split
  · omega
  · split <;> omega

/-- A view fits its byte. -/
theorem toNat_viewByte (a : Int) : (BitVec.ofInt 8 (view a)).toNat = (view a).toNat := by
  have hv := view_bounds a
  rw [BitVec.toNat_ofInt]
  omega

/-- Scaling by 256 leaves a byte as its own view. -/
theorem view_scaled_byte (b : Byte) : view (256 * (b.toNat : Int)) = b.toNat := by
  have hb := b.isLt
  unfold view clamp fdiv
  rw [Int.mul_fdiv_cancel_left _ (by decide), if_neg (by omega), if_neg (by omega)]

/-! ### Host reads -/

theorem onHostRead_reg {r : Reg} (h : hostTarget s.cfg addr = .reg r) :
    onHostRead addr s = { s with rdData := readReg s r } := by
  unfold onHostRead
  rw [h]

theorem onHostRead_unmapped (h : hostTarget s.cfg addr = .unmapped) : onHostRead addr s = { s with rdData := 0 } := by
  unfold onHostRead
  rw [h]

theorem onHostRead_planeWord {j : Nat} (h : hostTarget s.cfg addr = .planeWord j) :
    onHostRead addr s = readWindow (planeWindowWord s j) s := by
  unfold onHostRead
  rw [h]

theorem onHostRead_pixel {q : Nat} (h : hostTarget s.cfg addr = .pixel q) :
    onHostRead addr s = readWindow (pixelWord s q) s := by
  unfold onHostRead
  rw [h]

theorem readWindow_idle (word : Word) (hb : s.status.busy = false) : readWindow word s = { s with rdData := word } := by
  simp [readWindow, hb]

theorem readWindow_busy (word : Word) (hb : s.status.busy = true) :
    readWindow word s = { s with rdData := Config.busyRead s.freeIdx, freeIdx := s.freeIdx + 1 } := by
  simp [readWindow, hb]

/-- The four bytes of a plane word, 0 at and beyond the capacity (20_memory.md R72). -/
theorem byteOf_planeWindowWord (s : State) (j : Nat) :
    ∀ k < 4, byteOf (planeWindowWord s j) k = planeWindowByte s (4 * j + k) := by
  intro k hk
  unfold planeWindowWord
  interval_cases k
  · exact byteOf_wordOf_zero ..
  · exact byteOf_wordOf_one ..
  · exact byteOf_wordOf_two ..
  · exact byteOf_wordOf_three ..

/-- The bytes of a pixel word are the views of its accumulators (20_memory.md R77). -/
theorem byteOf_pixelWord (s : State) (q : Nat) :
    (byteOf (pixelWord s q) 0).toNat = (view (readAccumulator s (3 * q)).toInt).toNat ∧
    (byteOf (pixelWord s q) 1).toNat = (view (readAccumulator s (3 * q + 1)).toInt).toNat ∧
    (byteOf (pixelWord s q) 2).toNat = (view (readAccumulator s (3 * q + 2)).toInt).toNat ∧
    byteOf (pixelWord s q) 3 = 0 := by
  unfold pixelWord
  rw [byteOf_wordOf_zero, byteOf_wordOf_one, byteOf_wordOf_two, byteOf_wordOf_three]
  exact ⟨toNat_viewByte _, toNat_viewByte _, toNat_viewByte _, rfl⟩

/-- Settles O51, by the target of the address. -/
theorem hostReads : Obligations.HostReads := by
  intro s addr hframer
  rw [step_deliver s _ hframer]
  refine ⟨fun r hr => ?_, fun hun => ?_, fun j hj hb => ?_, fun q hq hb => ?_, fun ⟨j, hwindow⟩ hb => ?_⟩
  · exact congrArg Host.Outcome.next (onHostRead_reg hr)
  · exact congrArg Host.Outcome.next (onHostRead_unmapped hun)
  · exact ⟨planeWindowWord s j, congrArg Host.Outcome.next ((onHostRead_planeWord hj).trans (readWindow_idle _ hb)),
      byteOf_planeWindowWord s j⟩
  · exact ⟨pixelWord s q, congrArg Host.Outcome.next ((onHostRead_pixel hq).trans (readWindow_idle _ hb)),
      byteOf_pixelWord s q⟩
  · refine ⟨Config.busyRead s.freeIdx, congrArg Host.Outcome.next ?_⟩
    rcases hwindow with hj | hq
    · exact (onHostRead_planeWord hj).trans (readWindow_busy _ hb)
    · exact (onHostRead_pixel hq).trans (readWindow_busy _ hb)

/-! ### Pixel writes (20_memory.md R77) -/

theorem onHostWrite_pixel {q : Nat} (h : hostTarget s.cfg addr = .pixel q) (hb : s.status.busy = false) (d : Word) :
    onHostWrite addr d s = .next (loadPixel s q d) := by
  unfold onHostWrite
  rw [h]
  dsimp only
  rw [if_neg (by simp [hb])]

/-- The accumulators hold 256 times the bytes that were written. -/
theorem readPixel_loadPixel_same (s : State) (q : Nat) (d : Word) :
    readPixel (loadPixel s q d) q =
      { r := 256 * ((byteOf d 0).toNat : Int), g := 256 * ((byteOf d 1).toNat : Int)
        b := 256 * ((byteOf d 2).toNat : Int) } := by
  have fits : ∀ b : Byte, -8388608 ≤ (b.toNat : Int) ∧ (b.toNat : Int) ≤ 8388607 := fun b => by
    have hb := b.isLt
    omega
  exact readPixel_writeScaledPixel_same s q _ (fits _) (fits _) (fits _)

/-- A written pixel reads back as the data with bits [31:24] 0. -/
theorem pixelWord_loadPixel_same (s : State) (q : Nat) (d : Word) :
    pixelWord (loadPixel s q d) q = d &&& 0x00FFFFFF#32 := by
  rw [← wordOf_lowBytes d]
  simp only [pixelWord, viewPixel, readPixel_loadPixel_same, view_scaled_byte, BitVec.ofInt_natCast, BitVec.ofNat_toNat,
    BitVec.setWidth_eq]

/-- Settles O52. -/
theorem pixelWrite : Obligations.PixelWrite := by
  intro s addr d q hframer hb hq
  rw [step_deliver s _ hframer]
  refine ⟨loadPixel s q d, onHostWrite_pixel hq hb d, rfl, ?_, pixelWord_loadPixel_same s q d,
    fun p hp => readPixel_writeScaledPixel_other s q p _ hp⟩
  simp only [readPixel_loadPixel_same, toNat_byteOf, Nat.reduceMul, Nat.reducePow, Nat.div_one]

/-! ### Every event gives a next state (20_memory.md R88, 60_exceptions.md R249) -/

/-- A host write is never refused: a write to `CMD` presents a host command. -/
theorem onHostWrite_total (addr d : Word) (s : State) : ∃ t, onHostWrite addr d s = .next t := by
  unfold onHostWrite
  split
  · split
    · obtain ⟨command, _, heq⟩ := exec_decodeCommand d s
      exact ⟨_, heq⟩
    · split <;> exact ⟨_, rfl⟩
  · split <;> exact ⟨_, rfl⟩
  · exact ⟨_, rfl⟩
  · exact ⟨_, rfl⟩

theorem onEvent_total (e : Event) (s : State) : ∃ t, onEvent e s = .next t := by
  cases e with
  | hostWrite addr d => exact onHostWrite_total addr d s
  | _ => exact ⟨_, rfl⟩

/-- No event changes the parameters (10_state.md R20) or fills the framer's own input. -/
theorem onEvent_cfg_framer {e : Event} (hframer : s.framer = none) (h : onEvent e s = .next t) :
    t.cfg = s.cfg ∧ t.framer = none := by
  by_cases hreset : e = .resetInput
  · subst hreset
    cases h
    exact ⟨rfl, rfl⟩
  · rcases onEvent_store_cases h hreset with
      ⟨_, _, hcfg, hf⟩ | ⟨_, d, q, _, _, _, rfl⟩ | ⟨_, _, _, rfl⟩ | ⟨_, _, _, rfl⟩
    · exact ⟨hcfg, hf.trans hframer⟩
    · exact ⟨rfl, hframer⟩
    · obtain ⟨_, hcfg, hf⟩ := runQuant_frame s
      exact ⟨hcfg, hf.trans hframer⟩
    · obtain ⟨_, hcfg, hf⟩ := runPack_frame s
      exact ⟨hcfg, hf.trans hframer⟩

/-- With nothing in the framer's own input a step waits or takes an event, and gives a next state. -/
theorem step_total (hframer : s.framer = none) : ∃ t, step s = .next t := by
  unfold step takeNext
  rw [hframer]
  dsimp only
  split
  · exact ⟨s, rfl⟩
  · exact onEvent_total _ _

/-- Settles O54. -/
theorem stepTotal : Obligations.StepTotal := by
  intro s hframer
  obtain ⟨t, ht⟩ := step_total hframer
  refine ⟨t, ht, ?_⟩
  rcases step_cases s t hframer ht with ⟨_, rfl⟩ | ⟨e, rest, _, hev⟩
  · exact ⟨rfl, hframer⟩
  · exact onEvent_cfg_framer (s := { s with inputs := rest }) hframer hev

/-! ### Host writes while BUSY (20_memory.md R82, 70_reset_and_hazards.md R266) -/

/-- Only `STATUS` and `IE` are written while BUSY. -/
theorem writableWhileBusy_eq_false {r : Reg} (hst : r ≠ .status) (hie : r ≠ .ie) : writableWhileBusy r = false := by
  cases r with
  | status => exact absurd rfl hst
  | ie => exact absurd rfl hie
  | _ => rfl

/-- While BUSY a write that reaches neither `CMD` nor `STATUS` nor `IE` has no effect. -/
theorem onHostWrite_busy (hb : s.status.busy = true)
    (h : hostTarget s.cfg addr ∉ [Target.reg .cmd, .reg .status, .reg .ie]) (d : Word) :
    onHostWrite addr d s = .next s := by
  unfold onHostWrite
  split
  · rename_i r hr
    obtain ⟨hcmd, hst, hie⟩ : r ≠ .cmd ∧ r ≠ .status ∧ r ≠ .ie := by simpa [hr] using h
    rw [if_neg hcmd, if_pos ⟨hb, writableWhileBusy_eq_false hst hie⟩]
  · rw [if_pos hb]
  · rfl
  · rfl

/-- Settles O50. -/
theorem busyWrites : Obligations.BusyWrites := by
  intro s addr d hframer hb
  rw [step_deliver s _ hframer]
  exact ⟨fun h => onHostWrite_busy hb h d, fun hie => onHostWrite_reg hie (by simp) (fun _ => rfl) d⟩

end Sys2Proof.Machine
end

section
/-! The two encoding spaces (30_encoding.md R90 to R101, R109): the decoder and the encoder agree on both. -/

namespace Sys2Proof.Machine

variable {p : Config.Params} {op hdr : Byte} {chunk payload : List Byte} {i j : Instr} {w : Word}

/-! ### Host command words (30_encoding.md R91 to R93) -/

theorem decodeCommand_congr {w' : Word} (h : opField w = opField w') : decodeCommand w = decodeCommand w' := by
  unfold decodeCommand
  rw [h]

theorem decodeCommand_illegal (h : 7 ≤ (opField w).toNat) : decodeCommand w = .illegal (opField w) := by
  unfold decodeCommand
  split
  case h_8 => rfl
  all_goals omega

theorem opField_setWidth (op : Byte) : opField (op.setWidth 32) = op := by
  refine BitVec.eq_of_getLsbD_eq fun k hk => ?_
  have hword : k < 32 := by omega
  simp [opField, hk, hword]

theorem setWidth_opField (w : Word) : (opField w).setWidth 32 = w &&& 0xFF#32 := lowByte_readback w

/-- The command a word decodes to encodes to the word's OP field (30_encoding.md R92, R93). -/
theorem encode_decodeCommand (p : Config.Params) (w : Word) :
    encode p (decodeCommand w) = .command ((opField w).setWidth 32) := by
  have hop (k : Nat) (h : (opField w).toNat = k) : BitVec.ofNat 32 k = (opField w).setWidth 32 := by
    rw [← h, BitVec.ofNat_toNat]
  unfold decodeCommand
  split
  case h_8 => rfl
  all_goals exact congrArg Code.command (hop _ ‹_›)

theorem wellFormed_decodeCommand (p : Config.Params) (w : Word) : wellFormed p (decodeCommand w) = true := by
  unfold decodeCommand
  split
  case h_8 =>
    have hreserved : 7 ≤ (opField w).toNat := by grind
    exact decide_eq_true hreserved
  all_goals rfl

/-- Settles O2. -/
theorem commandWordsTotal : Obligations.CommandWordsTotal := by
  intro p w
  refine ⟨wellFormed_decodeCommand p w, ?_, decodeCommand_congr ?_⟩
  · rw [encode_decodeCommand, setWidth_opField]
  · rw [← setWidth_opField, opField_setWidth]

/-! ### Payloads (30_encoding.md R96 to R98) -/

theorem decodeBare_ok_iff : decodeBare i payload = .ok j ↔ payload = [] ∧ j = i := by
  cases payload <;> simp [decodeBare, eq_comm]

theorem wellFormed_writeImg_iff :
    wellFormed p (.writeImg hdr chunk) = true ↔
      hdr ∈ headerBytes p ∧ 1 ≤ chunk.length ∧ chunk.length ≤ maxChunk := by
  simp [wellFormed, and_assoc]

/-- The payload of a WRITE_IMG decodes exactly if it is a header byte and a chunk that the encoding admits. -/
theorem decodeImage_ok_iff :
    decodeImage p payload = .ok i ↔
      ∃ hdr chunk, payload = hdr :: chunk ∧ i = .writeImg hdr chunk ∧ wellFormed p (.writeImg hdr chunk) = true := by
  simp only [wellFormed_writeImg_iff]
  cases payload with
  | nil => simp [decodeImage]
  | cons hdr chunk =>
    unfold decodeImage
    dsimp only
    split_ifs with hlen hhdr
    · have hbad : ¬(1 ≤ chunk.length ∧ chunk.length ≤ maxChunk) := by omega
      simp [hbad]
    · have hok : 1 ≤ chunk.length ∧ chunk.length ≤ maxChunk := by omega
      simp [hhdr, hok, eq_comm]
    · simp [hhdr]

/-! ### Wire frames (30_encoding.md R95, R96, R101) -/

/-- The last part of the wire opcode map: the bytes of the four frames the unit never emits (30_encoding.md R101). -/
def decodeVendor (op : Byte) (payload : List Byte) : Except DecodeError Instr :=
  if op = 0x00#8 then .ok (.pinConfig payload)
  else if op = 0x06#8 then .ok (.sleep payload)
  else if op = 0x91#8 then .ok (.reset payload)
  else if op = 0x99#8 then .ok (.configErase payload)
  else .error (.unknownOpcode op)

/-- The opcode byte decides how the payload is read, the four parameters before R101's bytes. -/
theorem decodeFrame_cons (p : Config.Params) (op : Byte) (payload : List Byte) :
    decodeFrame p (op :: payload) =
      if op = p.opInit then decodeBare .init payload
      else if op = p.opClear then decodeBare .clear payload
      else if op = p.opRefresh then decodeBare .refresh payload
      else if op = p.opWriteImg then decodeImage p payload
      else decodeVendor op payload := rfl

theorem nodup_emittedOpcodes_iff :
    (emittedOpcodes p).Nodup ↔
      (p.opInit ≠ p.opClear ∧ p.opInit ≠ p.opRefresh ∧ p.opInit ≠ p.opWriteImg) ∧
      (p.opClear ≠ p.opRefresh ∧ p.opClear ≠ p.opWriteImg) ∧ p.opRefresh ≠ p.opWriteImg := by
  simp [emittedOpcodes]

theorem notMem_emittedOpcodes_iff :
    op ∉ emittedOpcodes p ↔ op ≠ p.opInit ∧ op ≠ p.opClear ∧ op ≠ p.opRefresh ∧ op ≠ p.opWriteImg := by
  simp [emittedOpcodes]

theorem decodeFrame_init (p : Config.Params) (payload : List Byte) :
    decodeFrame p (p.opInit :: payload) = decodeBare .init payload := by
  simp [decodeFrame_cons]

theorem decodeFrame_clear (h : (emittedOpcodes p).Nodup) (payload : List Byte) :
    decodeFrame p (p.opClear :: payload) = decodeBare .clear payload := by
  obtain ⟨⟨hinit, _, _⟩, _, _⟩ := nodup_emittedOpcodes_iff.1 h
  simp [decodeFrame_cons, hinit.symm]

theorem decodeFrame_refresh (h : (emittedOpcodes p).Nodup) (payload : List Byte) :
    decodeFrame p (p.opRefresh :: payload) = decodeBare .refresh payload := by
  obtain ⟨⟨_, hinit, _⟩, ⟨hclear, _⟩, _⟩ := nodup_emittedOpcodes_iff.1 h
  simp [decodeFrame_cons, hinit.symm, hclear.symm]

theorem decodeFrame_writeImg (h : (emittedOpcodes p).Nodup) (payload : List Byte) :
    decodeFrame p (p.opWriteImg :: payload) = decodeImage p payload := by
  obtain ⟨⟨_, _, hinit⟩, ⟨_, hclear⟩, hrefresh⟩ := nodup_emittedOpcodes_iff.1 h
  simp [decodeFrame_cons, hinit.symm, hclear.symm, hrefresh.symm]

theorem decodeFrame_vendor (h : op ∉ emittedOpcodes p) (payload : List Byte) :
    decodeFrame p (op :: payload) = decodeVendor op payload := by
  obtain ⟨hinit, hclear, hrefresh, himg⟩ := notMem_emittedOpcodes_iff.1 h
  simp [decodeFrame_cons, hinit, hclear, hrefresh, himg]

/-- A vendor frame keeps its opcode byte and payload, and is well-formed where no emitted frame has that byte. -/
theorem encode_of_decodeVendor (h : decodeVendor op payload = .ok i) (hop : op ∉ emittedOpcodes p) :
    wellFormed p i = true ∧ encode p i = .frame (op :: payload) := by
  unfold decodeVendor at h
  split_ifs at h with hbyte hbyte hbyte hbyte
  all_goals
    subst hbyte
    cases h
    exact ⟨decide_eq_true hop, rfl⟩

/-- Settles O1: a command is told by its OP field, a frame by its opcode byte. -/
theorem decodeEncode : Obligations.DecodeEncode := by
  intro p i hp hwf
  obtain ⟨_, _, _, _, _, _, _, _, _, hnodup⟩ := hp
  cases i with
  | illegal op =>
    have hop := opField_setWidth op
    have hreserved : 7 ≤ op.toNat := of_decide_eq_true hwf
    refine congrArg Except.ok ?_
    rw [decodeCommand_illegal (by rwa [hop]), hop]
  | init => exact decodeFrame_init p []
  | clear => exact decodeFrame_clear hnodup []
  | refresh => exact decodeFrame_refresh hnodup []
  | writeImg hdr chunk =>
    exact (decodeFrame_writeImg hnodup _).trans (decodeImage_ok_iff.2 ⟨hdr, chunk, rfl, rfl, hwf⟩)
  | pinConfig payload | sleep payload | reset payload | configErase payload =>
    exact decodeFrame_vendor (of_decide_eq_true hwf) payload
  | _ => rfl

/-- Settles O3, along the opcode map. -/
theorem framesRoundTrip : Obligations.FramesRoundTrip := by
  intro p bytes i h
  cases bytes with
  | nil => cases h
  | cons op payload =>
    rw [decodeFrame_cons] at h
    split_ifs at h with hinit hclear hrefresh himg
    · obtain ⟨rfl, rfl⟩ := decodeBare_ok_iff.1 h
      exact ⟨rfl, by rw [hinit]; rfl⟩
    · obtain ⟨rfl, rfl⟩ := decodeBare_ok_iff.1 h
      exact ⟨rfl, by rw [hclear]; rfl⟩
    · obtain ⟨rfl, rfl⟩ := decodeBare_ok_iff.1 h
      exact ⟨rfl, by rw [hrefresh]; rfl⟩
    · obtain ⟨hdr, chunk, rfl, rfl, hwf⟩ := decodeImage_ok_iff.1 h
      exact ⟨hwf, by rw [himg]; rfl⟩
    · exact encode_of_decodeVendor h (notMem_emittedOpcodes_iff.2 ⟨hinit, hclear, hrefresh, himg⟩)

/-! ### Written-out words, and the vendor frames' meaning -/

/-- Settles O4: the words by evaluation, the frames by what the opcode byte selects. -/
theorem decodedWords : Obligations.DecodedWords := by
  refine ⟨rfl, rfl, rfl, rfl, rfl, rfl, fun p hinit hclear hrefresh himg hsel0 hsel1 hcont => ?_⟩
  have hnodup : (emittedOpcodes p).Nodup := by
    rw [emittedOpcodes, hinit, hclear, hrefresh, himg]
    decide
  have hhdr : 0xFF#8 ∈ headerBytes p := by
    rw [headerBytes, hsel0, hsel1, hcont]
    decide
  rw [← hinit, ← himg, decodeFrame_init, decodeFrame_writeImg hnodup, decodeFrame_writeImg hnodup]
  refine ⟨rfl, decodeImage_ok_iff.2 ⟨_, _, rfl, rfl, wellFormed_writeImg_iff.2 ⟨hhdr, ?_⟩⟩, rfl⟩
  decide

/-- Settles O20: the arms of the four vendor frames. -/
theorem vendorFramesRefused : Obligations.VendorFramesRefused := fun _ _ => ⟨rfl, rfl, rfl, rfl⟩

end Sys2Proof.Machine
end

section
/-! The notification formats (30_encoding.md R103, R104): which payloads are text, and which are MTU notifications. -/

namespace Sys2Proof.Machine

variable {b b0 b1 b2 b3 : Byte} {part bytes digits rest : List Byte} {n : Half}

/-! ### The rows of the text table (30_encoding.md R104) -/

theorem byteIn_iff {lo hi : Nat} : byteIn lo hi b = true ↔ lo ≤ b.toNat ∧ b.toNat ≤ hi := by
  simp [byteIn]

/-- The length a first byte announces, by the first column of the table. -/
theorem sequenceLength_iff :
    (sequenceLength b = 1 ↔ b.toNat ≤ 0x7F) ∧
    (sequenceLength b = 2 ↔ 0xC2 ≤ b.toNat ∧ b.toNat ≤ 0xDF) ∧
    (sequenceLength b = 3 ↔ 0xE0 ≤ b.toNat ∧ b.toNat ≤ 0xEF) ∧
    (sequenceLength b = 4 ↔ 0xF0 ≤ b.toNat ∧ b.toNat ≤ 0xF4) := by
  unfold sequenceLength
  simp only [byteIn_iff]
  split_ifs <;> simp <;> omega

/-- After 0xE0 the second byte starts later, after 0xED it ends earlier. -/
theorem secondOfThree_iff :
    secondOfThree b0 b1 = true ↔
      (0x80 ≤ b1.toNat ∧ b1.toNat ≤ 0xBF) ∧ (b0.toNat = 0xE0 → 0xA0 ≤ b1.toNat) ∧
        (b0.toNat = 0xED → b1.toNat ≤ 0x9F) := by
  unfold secondOfThree
  split_ifs <;> rw [byteIn_iff] <;> omega

/-- After 0xF0 the second byte starts later, after 0xF4 it ends earlier. -/
theorem secondOfFour_iff :
    secondOfFour b0 b1 = true ↔
      (0x80 ≤ b1.toNat ∧ b1.toNat ≤ 0xBF) ∧ (b0.toNat = 0xF0 → 0x90 ≤ b1.toNat) ∧
        (b0.toNat = 0xF4 → b1.toNat ≤ 0x8F) := by
  unfold secondOfFour
  split_ifs <;> rw [byteIn_iff] <;> omega

/-- A byte string that fits one row of the table. -/
def IsSequence (part : List Byte) : Prop := ∃ row ∈ utf8Rows, fitsRow part row

theorem isSequence_one_iff : IsSequence [b0] ↔ sequenceLength b0 = 1 := by
  obtain ⟨hlen, _⟩ := sequenceLength_iff (b := b0)
  simp [IsSequence, utf8Rows, fitsRow, hlen]

theorem isSequence_two_iff : IsSequence [b0, b1] ↔ sequenceLength b0 = 2 ∧ byteIn 0x80 0xBF b1 = true := by
  obtain ⟨_, hlen, _⟩ := sequenceLength_iff (b := b0)
  simp [IsSequence, utf8Rows, fitsRow, hlen, byteIn_iff]

theorem isSequence_three_iff :
    IsSequence [b0, b1, b2] ↔
      sequenceLength b0 = 3 ∧ secondOfThree b0 b1 = true ∧ byteIn 0x80 0xBF b2 = true := by
  obtain ⟨_, _, hlen, _⟩ := sequenceLength_iff (b := b0)
  simp [IsSequence, utf8Rows, fitsRow, hlen, secondOfThree_iff, byteIn_iff]
  omega

theorem isSequence_four_iff :
    IsSequence [b0, b1, b2, b3] ↔
      sequenceLength b0 = 4 ∧ secondOfFour b0 b1 = true ∧ byteIn 0x80 0xBF b2 = true ∧ byteIn 0x80 0xBF b3 = true := by
  obtain ⟨_, _, _, hlen⟩ := sequenceLength_iff (b := b0)
  simp [IsSequence, utf8Rows, fitsRow, hlen, secondOfFour_iff, byteIn_iff]
  omega

theorem utf8Rows_length : ∀ row ∈ utf8Rows, row.length = 1 ∨ row.length = 2 ∨ row.length = 3 ∨ row.length = 4 := by
  decide

/-- The sequences of the table, by their length. -/
theorem IsSequence.cases (h : IsSequence part) :
    (∃ b0, part = [b0]) ∨ (∃ b0 b1, part = [b0, b1]) ∨ (∃ b0 b1 b2, part = [b0, b1, b2]) ∨
      ∃ b0 b1 b2 b3, part = [b0, b1, b2, b3] := by
  obtain ⟨row, hrow, hfit⟩ := h
  have hlen := utf8Rows_length row hrow
  rwa [← List.Forall₂.length_eq hfit, List.length_eq_one_iff, List.length_eq_two, List.length_eq_three,
    List.length_eq_four] at hlen

/-! ### Text as a concatenation -/

theorem utf8Ok_sequence_append (h : IsSequence part) (rest : List Byte) : utf8Ok (part ++ rest) = utf8Ok rest := by
  obtain ⟨b0, rfl⟩ | ⟨b0, b1, rfl⟩ | ⟨b0, b1, b2, rfl⟩ | ⟨b0, b1, b2, b3, rfl⟩ := h.cases
  · have hlen := isSequence_one_iff.1 h
    show utf8Ok (b0 :: rest) = utf8Ok rest
    rw [utf8Ok.eq_def]
    simp [hlen]
  · obtain ⟨hlen, h1⟩ := isSequence_two_iff.1 h
    simp [utf8Ok, hlen, h1]
  · obtain ⟨hlen, h1, h2⟩ := isSequence_three_iff.1 h
    simp [utf8Ok, hlen, h1, h2]
  · obtain ⟨hlen, h1, h2, h3⟩ := isSequence_four_iff.1 h
    simp [utf8Ok, hlen, h1, h2, h3]

theorem utf8Ok_flatten {parts : List (List Byte)} (h : ∀ part ∈ parts, IsSequence part) :
    utf8Ok parts.flatten = true := by
  induction parts with
  | nil => rfl
  | cons part parts ih =>
    obtain ⟨hpart, hparts⟩ := List.forall_mem_cons.1 h
    rw [List.flatten_cons, utf8Ok_sequence_append hpart]
    exact ih hparts

/-- A concatenation of sequences of the table. -/
def IsText (bytes : List Byte) : Prop :=
  ∃ parts : List (List Byte), bytes = parts.flatten ∧ ∀ part ∈ parts, IsSequence part

theorem IsText.sequence_append (hpart : IsSequence part) (hrest : IsText rest) : IsText (part ++ rest) := by
  obtain ⟨parts, rfl, hparts⟩ := hrest
  exact ⟨part :: parts, rfl, List.forall_mem_cons.2 ⟨hpart, hparts⟩⟩

theorem isText_of_utf8Ok (h : utf8Ok bytes = true) : IsText bytes := by
  fun_induction utf8Ok bytes with
  | case1 => exact ⟨[], rfl, by simp⟩
  | case2 b0 rest hlen ih => exact (ih h).sequence_append (isSequence_one_iff.2 hlen)
  | case3 b0 hlen b1 rest ih =>
    obtain ⟨h1, hrest⟩ := Bool.and_eq_true_iff.1 h
    exact (ih hrest).sequence_append (isSequence_two_iff.2 ⟨hlen, h1⟩)
  | case5 b0 hlen b1 b2 rest ih =>
    simp only [Bool.and_eq_true] at h
    obtain ⟨⟨h1, h2⟩, hrest⟩ := h
    exact (ih hrest).sequence_append (isSequence_three_iff.2 ⟨hlen, h1, h2⟩)
  | case7 b0 hlen b1 b2 b3 rest ih =>
    simp only [Bool.and_eq_true] at h
    obtain ⟨⟨⟨h1, h2⟩, h3⟩, hrest⟩ := h
    exact (ih hrest).sequence_append (isSequence_four_iff.2 ⟨hlen, h1, h2, h3⟩)
  | _ => cases h

/-- Settles O37. -/
theorem utf8WellFormed : Obligations.Utf8WellFormed := fun _ =>
  ⟨isText_of_utf8Ok, fun ⟨_, hbytes, hparts⟩ => hbytes ▸ utf8Ok_flatten hparts⟩

/-- A byte below 0x80 is a sequence by itself. -/
theorem utf8Ok_of_ascii (h : ∀ b ∈ bytes, b.toNat ≤ 0x7F) : utf8Ok bytes = true := by
  induction bytes with
  | nil => rfl
  | cons b rest ih =>
    obtain ⟨hb, hrest⟩ := List.forall_mem_cons.1 h
    have hseq : IsSequence [b] := isSequence_one_iff.2 (sequenceLength_iff.1.2 hb)
    exact (utf8Ok_sequence_append hseq rest).trans (ih hrest)

/-! ### MTU notifications (30_encoding.md R103) -/

theorem isDigit_iff : isDigit b = true ↔ 0x30 ≤ b.toNat ∧ b.toNat ≤ 0x39 := byteIn_iff

theorem digitsValue_cons (d : Byte) (digits : List Byte) :
    digitsValue (d :: digits) = (d.toNat - 48) * 10 ^ digits.length + digitsValue digits := by
  rw [digitsValue, List.map_cons, List.reverse_cons, Nat.ofDigits_append, Nat.ofDigits_singleton, List.length_reverse,
    List.length_map, digitsValue]
  ring

@[simp] theorem digitsValue_nil : digitsValue [] = 0 := rfl

@[simp] theorem decimalValue_nil (acc : Nat) : decimalValue acc [] = acc := rfl

theorem decimalValue_cons (acc : Nat) (d : Byte) (digits : List Byte) :
    decimalValue acc (d :: digits) = decimalValue (10 * acc + (d.toNat - 48)) digits := Eq.refl _

/-- Reading on after the value `acc` puts `acc` before the digits. -/
theorem decimalValue_eq (acc : Nat) (digits : List Byte) :
    decimalValue acc digits = acc * 10 ^ digits.length + digitsValue digits := by
  induction digits generalizing acc with
  | nil => simp
  | cons d digits ih =>
    rw [decimalValue_cons, ih, digitsValue_cons, List.length_cons, pow_succ]
    ring

theorem decimalValue_zero (digits : List Byte) : decimalValue 0 digits = digitsValue digits := by
  simp [decimalValue_eq]

/-- The digits are rejected if there are none, if one is no digit, or if the value is too large. -/
theorem mtuDigits_eq_some_iff :
    mtuDigits digits = some n ↔
      digits ≠ [] ∧ (∀ d ∈ digits, isDigit d = true) ∧ digitsValue digits = n.toNat := by
  have hn := n.isLt
  unfold mtuDigits
  rw [decimalValue_zero]
  split_ifs with hnil hdigit hlarge
  · simp [List.length_eq_zero_iff.1 hnil]
  · have hbad : ¬∀ d ∈ digits, isDigit d = true := by simpa using hdigit
    simp [hbad]
  · have hne : digitsValue digits ≠ n.toNat := by omega
    simp [hne]
  · have hsome : digits ≠ [] := fun h => hnil (h ▸ rfl)
    have hdigits : ∀ d ∈ digits, isDigit d = true := by simpa using hdigit
    have hvalue : BitVec.ofNat 16 (digitsValue digits) = n ↔ digitsValue digits = n.toNat := by
      rw [← BitVec.toNat_inj, BitVec.toNat_ofNat, Nat.mod_eq_of_lt (by omega)]
    rw [Option.some_inj, hvalue]
    exact ⟨fun h => ⟨hsome, hdigits, h⟩, fun ⟨_, _, h⟩ => h⟩

/-- A match is `mtu=` and then digits that have a value. -/
theorem mtuMatch_eq_some_iff :
    mtuMatch bytes = some n ↔
      ∃ digits, bytes = [0x6D#8, 0x74#8, 0x75#8, 0x3D#8] ++ digits ∧ mtuDigits digits = some n := by
  constructor
  · intro h
    unfold mtuMatch at h
    split at h
    · split_ifs at h with hprefix
      obtain ⟨rfl, rfl, rfl, rfl⟩ := hprefix
      exact ⟨_, rfl, h⟩
    · cases h
  · rintro ⟨digits, rfl, h⟩
    exact h

theorem utf8Ok_of_mtuMatch (h : mtuMatch bytes = some n) : utf8Ok bytes = true := by
  obtain ⟨digits, rfl, hdigits⟩ := mtuMatch_eq_some_iff.1 h
  obtain ⟨_, hall, _⟩ := mtuDigits_eq_some_iff.1 hdigits
  refine utf8Ok_of_ascii (List.forall_mem_append.2 ⟨by decide, fun d hd => ?_⟩)
  have := isDigit_iff.1 (hall d hd)
  omega

/-- Settles O36. -/
theorem mtuText : Obligations.MtuText := by
  refine fun bytes n => ⟨?_, utf8Ok_of_mtuMatch⟩
  simp only [mtuMatch_eq_some_iff, mtuDigits_eq_some_iff, isDigit_iff]
  constructor
  · rintro ⟨digits, hbytes, hne, hdigits, hvalue⟩
    exact ⟨digits, hne, hdigits, hbytes, hvalue⟩
  · rintro ⟨digits, hne, hdigits, hbytes, hvalue⟩
    exact ⟨digits, hbytes, hne, hdigits, hvalue⟩

end Sys2Proof.Machine
end

section
/-! Dispatch and the immediate commands (40_command.md R120 to R127): a command is dropped, completes at once, or is
rejected with a local error. -/

namespace Sys2Proof.Machine

variable {s : State} {code : ErrCode} {command : State → State}

/-! ### The end of a command at its acceptance (40_command.md R123, R124) -/

/-- The state after a command that a local error rejects: only the outcome of the command is recorded. -/
def rejectedWith (code : ErrCode) (s : State) : State :=
  { s with
    errcode := code, curOp := .none, wait := .idle
    status  := { s.status with busy := false, done := false, err := true } }

theorem complete_cleared (s : State) :
    complete (cleared s) =
      { s with
        errcode := .none, curOp := .none, wait := .idle
        status  := { s.status with busy := false, done := true, err := false } } := rfl

theorem complete_of_error (h : s.errcode ≠ .none) :
    complete s = { s with curOp := .none, wait := .idle, status := { s.status with busy := false, err := true } } :=
  if_neg h

theorem raiseError_cleared (hcode : errClass code = .localError) (s : State) :
    raiseError code (cleared s) = rejectedWith code s := by
  have hrecorded : recordError code (cleared s) = { cleared s with errcode := code } := if_pos rfl
  have herror : code ≠ .none := by
    rintro rfl
    cases hcode
  rw [raiseError_local code _ hcode, hrecorded, complete_of_error herror]
  rfl

/-- A presented command whose acceptance raises a local error is rejected in the same event. -/
theorem present_rejected (hb : s.status.busy = false) (hcode : errClass code = .localError)
    (hcommand : command (cleared s) = raiseError code (cleared s)) : present command s = rejectedWith code s := by
  rw [present_idle command s hb, hcommand, raiseError_cleared hcode]

/-! ### Preconditions (40_command.md R127) -/

theorem imageReady_iff : imageReady s = true ↔ s.seqState = .ready ∧ s.status.resValid = true := by
  simp [imageReady]

theorem acceptOpen_sequence (h : s.seqState ≠ .disconnected) : acceptOpen s = raiseError .sequence s := if_neg h

theorem acceptQuant_sequence (h : imageReady s = false) : acceptQuant s = raiseError .sequence s := if_pos h

theorem acceptPack_sequence (h : imageReady s = false) : acceptPack s = raiseError .sequence s := if_pos h

theorem acceptXfer_sequence (h : (imageReady s && s.status.planesValid) = false) :
    acceptXfer s = raiseError .sequence s := if_pos h

theorem acceptClose_sequence (h : s.seqState ≠ .ready) : acceptClose s = raiseError .sequence s := if_neg h

/-! ### The opcode of a word (30_encoding.md R91) -/

theorem opField_eq_ofNat (w : Word) : opField w = BitVec.ofNat 8 w.toNat := rfl

theorem toNat_opField (w : Word) : (opField w).toNat = w.toNat % 256 := by
  rw [opField_eq_ofNat, BitVec.toNat_ofNat]

/-! ### The statements -/

/-- Settles O6: every command word presents a command, and a busy unit drops it. -/
theorem busyCommandDropped : Obligations.BusyCommandDropped := by
  intro s w hb
  obtain ⟨command, _, hexec⟩ := exec_decodeCommand w s
  rw [hexec, present_busy command s hb]

/-- Settles O7. -/
theorem nopCompletes : Obligations.NopCompletes := fun s =>
  ⟨fun hb => congrArg Host.Outcome.next ((present_idle complete s hb).trans (complete_cleared s)),
    fun hb => congrArg Host.Outcome.next (present_busy complete s hb)⟩

/-- Settles O8: OP is the low byte of the word, and its command only raises a local error. -/
theorem illegalCompletes : Obligations.IllegalCompletes := by
  refine ⟨rfl, rfl, fun w hw => ?_, fun op s hb => congrArg Host.Outcome.next (present_rejected hb rfl rfl)⟩
  rw [← toNat_opField] at hw
  rw [decodeCommand_illegal hw, opField_eq_ofNat]

/-- Settles O9, by the first check of each command: clearing the flags leaves what it reads. -/
theorem preconditionFailures : Obligations.PreconditionFailures := by
  intro s hb
  have rejected {command : State → State} (h : command (cleared s) = raiseError .sequence (cleared s)) :
      Host.Outcome.next (present command s) = (.next (rejectedWith .sequence s) : Host.Outcome State Fault Refusal) :=
    congrArg Host.Outcome.next (present_rejected hb rfl h)
  refine ⟨fun hopen => ?_, fun himage => ?_, fun hplanes => ?_, fun hclose => ?_⟩
  · exact rejected (acceptOpen_sequence hopen)
  · have hready : imageReady (cleared s) = false := Bool.eq_false_iff.2 fun h => himage (imageReady_iff.1 h)
    exact ⟨rejected (acceptQuant_sequence hready), rejected (acceptPack_sequence hready)⟩
  · refine rejected (acceptXfer_sequence (Bool.eq_false_iff.2 fun h => hplanes ?_))
    obtain ⟨hready, hvalid⟩ := Bool.and_eq_true_iff.1 h
    obtain ⟨hseq, hres⟩ := imageReady_iff.1 hready
    exact ⟨hseq, hres, hvalid⟩
  · exact rejected (acceptClose_sequence hclose)

end Sys2Proof.Machine
end

section
/-! QUANT and PACK up to the engine's event, and LDKERN (41_quantizer.md R133, R150 to R152, 42_bitplane.md R160). -/

namespace Sys2Proof.Machine

variable {s : State}

/-! ### Acceptance (41_quantizer.md R133, R150, 42_bitplane.md R160) -/

theorem acceptQuant_illegalAlg (hi : imageReady s = true) (halg : s.alg = .reserved) :
    acceptQuant s = raiseError .illegalAlg s := by
  rw [acceptQuant, if_neg (by simp [hi]), if_pos halg]

theorem acceptQuant_badKernel (hi : imageReady s = true) (halg : s.alg = .errorDiffusion)
    (hk : s.kdiv = 0 ∨ 4 < s.kanchor.toNat) : acceptQuant s = raiseError .badKernel s := by
  rw [acceptQuant, if_neg (by simp [hi]), if_neg (by simp [halg]), if_pos ⟨halg, hk⟩]

theorem acceptQuant_accepted (hi : imageReady s = true) (halg : s.alg ≠ .reserved)
    (hk : ¬(s.alg = .errorDiffusion ∧ (s.kdiv = 0 ∨ 4 < s.kanchor.toNat))) :
    acceptQuant s = waitAt .engine (accept .quantOp s) := by
  rw [acceptQuant, if_neg (by simp [hi]), if_neg halg, if_neg hk]

theorem acceptPack_accepted (hi : imageReady s = true) : acceptPack s = waitAt .engine (accept .packOp s) :=
  if_neg (by simp [hi])

/-- A presented command that is accepted for the engine waits for its event. -/
theorem present_engine {command : State → State} {op : CurOp} (hb : s.status.busy = false)
    (hcommand : command (cleared s) = waitAt .engine (accept op (cleared s))) :
    present command s =
      { s with
        curOp := op, wait := .engine, errcode := .none
        status := { s.status with busy := true, done := false, err := false } } := by
  rw [present_idle command s hb, hcommand]
  rfl

/-- Settles O11: clearing the flags leaves what the checks read. -/
theorem computeAccepted : Obligations.ComputeAccepted := by
  intro s hb hready hres
  have hi : imageReady (cleared s) = true := imageReady_iff.2 ⟨hready, hres⟩
  refine ⟨fun halg hkernel => ?_, congrArg Host.Outcome.next (present_engine hb (acceptPack_accepted hi))⟩
  refine congrArg Host.Outcome.next (present_engine hb (acceptQuant_accepted hi halg ?_))
  rintro ⟨hed, hbad⟩
  obtain ⟨hdiv, hanchor⟩ := hkernel hed
  rcases hbad with hzero | hbeyond
  · exact hdiv hzero
  · exact absurd hbeyond (Nat.not_lt.2 hanchor)

/-- Settles O12. -/
theorem quantChecks : Obligations.QuantChecks := by
  intro s hb hready hres
  have hi : imageReady (cleared s) = true := imageReady_iff.2 ⟨hready, hres⟩
  exact ⟨fun halg => congrArg Host.Outcome.next (present_rejected hb rfl (acceptQuant_illegalAlg hi halg)),
    fun halg hk => congrArg Host.Outcome.next (present_rejected hb rfl (acceptQuant_badKernel hi halg hk))⟩

/-! ### LDKERN (41_quantizer.md R151, R152) -/

/-- `KW[r][c]` of the kernel words by themselves. -/
def weightIn (kw : Vector Word 4) (r c : Nat) : Nat :=
  (byteOf (kw.toList.getD ((5 * r + c) / 4) 0) ((5 * r + c) % 4)).toNat

theorem kernelWeight_eq (s : State) (r c : Nat) : kernelWeight s r c = weightIn s.kw r c := rfl

/-- A preset of the model is a row of the printed table. -/
def Kernel.IsRow (k : Kernel) (row : Nat × Nat × List (List Nat)) : Prop :=
  k.anchor = BitVec.ofNat 3 row.1 ∧ k.divisor = BitVec.ofNat 16 row.2.1 ∧
  ∀ r < 3, ∀ c < 5, weightIn k.weights r c = (row.2.2.getD r []).getD c 0

/-- The presets are the rows of the printed table, in its order. -/
theorem kernelPresets_isRow : List.Forall₂ Kernel.IsRow kernelPresets presetTable := by
  unfold kernelPresets presetTable
  repeat' constructor
  all_goals decide

/-- A row of the printed table has its preset. -/
theorem kernelPresets_of_presetTable {i : Nat} {row : Nat × Nat × List (List Nat)} (h : presetTable[i]? = some row) :
    ∃ k, kernelPresets[i]? = some k ∧ k.IsRow row := by
  obtain ⟨hi, rfl⟩ := List.getElem?_eq_some_iff.1 h
  have hi' : i < kernelPresets.length := hi
  exact ⟨kernelPresets[i], List.getElem?_eq_getElem hi', kernelPresets_isRow.get hi' hi⟩

theorem loadKernel_preset {k : Kernel} (h : kernelPresets[s.kpreset.toNat]? = some k) :
    loadKernel s = complete { s with kanchor := k.anchor, kdiv := k.divisor, kw := k.weights } := by
  unfold loadKernel
  rw [h]

theorem loadKernel_badKernel (h : 6 ≤ s.kpreset.toNat) : loadKernel s = raiseError .badKernel s := by
  have hnone : kernelPresets[s.kpreset.toNat]? = none := List.getElem?_eq_none_iff.2 h
  unfold loadKernel
  rw [hnone]

/-- Settles O17. -/
theorem ldkernLoads : Obligations.LdkernLoads := by
  refine fun s hb => ⟨fun a d rows hrow => ?_,
    fun hbeyond => congrArg Host.Outcome.next (present_rejected hb rfl (loadKernel_badKernel hbeyond))⟩
  obtain ⟨k, hk, hanchor, hdivisor, hweights⟩ := kernelPresets_of_presetTable hrow
  have hload : present loadKernel s =
      complete (cleared { s with kanchor := k.anchor, kdiv := k.divisor, kw := k.weights }) :=
    (present_idle loadKernel s hb).trans (loadKernel_preset (s := cleared s) hk)
  refine ⟨_, congrArg Host.Outcome.next hload, ?_, fun r hr c hc => ?_⟩
  · rw [complete_cleared, hanchor, hdivisor]
  · rw [kernelWeight_eq, complete_kw]
    exact hweights r hr c hc

end Sys2Proof.Machine
end

section
/-! The nearest colour (41_quantizer.md R130, R132): the least index among the nearest, and the colour a value lies
nearest to when each channel lies nearer to that colour's value. -/

namespace Sys2Proof.Machine

variable {sc : Int} {q c d : Rgb} {m : Mode}

/-! ### The least index (41_quantizer.md R132) -/

/-- `c` stands in `colours` at the least index among the colours nearest to `q`. -/
def IsNearest (sc : Int) (q : Rgb) (colours : List Rgb) (c : Rgb) : Prop :=
  ∃ k, colours[k]? = some c ∧ (∀ (j : Nat) (d : Rgb), colours[j]? = some d → dist sc q c ≤ dist sc q d) ∧
    ∀ (j : Nat) (d : Rgb), j < k → colours[j]? = some d → dist sc q c < dist sc q d

/-- A first colour that is not nearest leaves the nearest of the others. -/
theorem IsNearest.cons_skip {colours : List Rgb} (h : IsNearest sc q colours d) (hc : dist sc q d < dist sc q c) :
    IsNearest sc q (c :: colours) d := by
  obtain ⟨k, hk, hleast, hbefore⟩ := h
  refine ⟨k + 1, hk, fun j e hj => ?_, fun j e hlt hj => ?_⟩
  · cases j with
    | zero => cases hj; exact Int.le_of_lt hc
    | succ j => exact hleast j e hj
  · cases j with
    | zero => cases hj; exact hc
    | succ j => exact hbefore j e (Nat.lt_of_succ_lt_succ hlt) hj

/-- A second colour that is no nearer than the first can be passed over. -/
theorem IsNearest.cons_pass {colours : List Rgb} {e : Rgb} (h : IsNearest sc q (c :: colours) e)
    (hd : dist sc q c ≤ dist sc q d) : IsNearest sc q (c :: d :: colours) e := by
  obtain ⟨k, hk, hleast, hbefore⟩ := h
  have hfirst : dist sc q e ≤ dist sc q c := hleast 0 c rfl
  cases k with
  | zero =>
    refine ⟨0, hk, fun j f hj => ?_, fun j f hlt => absurd hlt (Nat.not_lt_zero j)⟩
    match j with
    | 0 => exact hleast 0 f hj
    | 1 => cases hj; exact hfirst.trans hd
    | j + 2 => exact hleast (j + 1) f hj
  | succ k =>
    have hstrict : dist sc q e < dist sc q c := hbefore 0 c (Nat.succ_pos k) rfl
    refine ⟨k + 2, hk, fun j f hj => ?_, fun j f hlt hj => ?_⟩
    · match j with
      | 0 => exact hleast 0 f hj
      | 1 => cases hj; exact hfirst.trans hd
      | j + 2 => exact hleast (j + 1) f hj
    · match j with
      | 0 => cases hj; exact hstrict
      | 1 => cases hj; exact hstrict.trans_le hd
      | j + 2 => exact hbefore (j + 1) f (Nat.lt_of_succ_lt_succ hlt) hj

theorem nearestFrom_isNearest (sc : Int) (q c : Rgb) (later : List Rgb) :
    IsNearest sc q (c :: later) (nearestFrom sc q c later) := by
  induction later generalizing c with
  | nil =>
    refine ⟨0, rfl, fun j d hj => ?_, fun j d hlt => absurd hlt (Nat.not_lt_zero j)⟩
    cases j with
    | zero => cases hj; exact le_refl _
    | succ j => cases hj
  | cons d rest ih =>
    unfold nearestFrom
    split
    · rename_i hnearer
      have hrest := ih d
      have ⟨_, _, hleast, _⟩ := hrest
      exact hrest.cons_skip ((hleast 0 d rfl).trans_lt hnearer)
    · rename_i hnot
      exact (ih c).cons_pass (Int.not_lt.1 hnot)

theorem nearestColour_isNearest (m : Mode) (sc : Int) (q : Rgb) :
    IsNearest sc q (palette m) (nearestColour m sc q) := by
  cases m <;> exact nearestFrom_isNearest sc q black _

/-- Settles O21. -/
theorem nearestColourLeast : Obligations.NearestColourLeast := nearestColour_isNearest

theorem nearestColour_mem (m : Mode) (sc : Int) (q : Rgb) : nearestColour m sc q ∈ palette m := by
  obtain ⟨k, hk, _⟩ := nearestColour_isNearest m sc q
  exact List.mem_of_getElem? hk

/-- A palette colour strictly nearer than every other one is the nearest colour. -/
theorem nearestColour_eq_of_lt (hc : c ∈ palette m) (h : ∀ d ∈ palette m, d ≠ c → dist sc q c < dist sc q d) :
    nearestColour m sc q = c := by
  by_contra hne
  obtain ⟨_, _, hleast, _⟩ := nearestColour_isNearest m sc q
  obtain ⟨j, hj⟩ := List.getElem?_of_mem hc
  exact absurd (h _ (nearestColour_mem m sc q) hne) (Int.not_lt.2 (hleast j c hj))

/-! ### Values nearer to one colour in every channel (41_quantizer.md R130) -/

theorem palette_channels (hc : c ∈ palette m) :
    (c.r = 0 ∨ c.r = 255) ∧ (c.g = 0 ∨ c.g = 255) ∧ (c.b = 0 ∨ c.b = 255) := by
  cases m <;> revert c <;> decide

/-- At scale `sc` the channel value `x` lies nearer to `v` than to the other end of 0 to 255. -/
def NearEnd (sc x v : Int) : Prop := (v = 0 → 2 * x < 255 * sc) ∧ (v = 255 → 255 * sc < 2 * x)

theorem NearEnd.lt {x u v : Int} (h : NearEnd sc x u) (hsc : 0 < sc) (hu : u = 0 ∨ u = 255) (hv : v = 0 ∨ v = 255)
    (hne : v ≠ u) : (x - sc * u) * (x - sc * u) < (x - sc * v) * (x - sc * v) := by
  obtain ⟨hlow, hhigh⟩ := h
  rcases hu with rfl | rfl <;> rcases hv with rfl | rfl
  · exact absurd rfl hne
  · nlinarith [hlow rfl]
  · nlinarith [hhigh rfl]
  · exact absurd rfl hne

theorem NearEnd.le {x u v : Int} (h : NearEnd sc x u) (hsc : 0 < sc) (hu : u = 0 ∨ u = 255) (hv : v = 0 ∨ v = 255) :
    (x - sc * u) * (x - sc * u) ≤ (x - sc * v) * (x - sc * v) := by
  by_cases hne : v = u
  · rw [hne]
  · exact Int.le_of_lt (h.lt hsc hu hv hne)

/-- A value that lies nearer to one palette colour in every channel has it as its nearest colour. -/
theorem nearestColour_of_nearEnd (hsc : 0 < sc) (hc : c ∈ palette m) (hr : NearEnd sc q.r c.r)
    (hg : NearEnd sc q.g c.g) (hb : NearEnd sc q.b c.b) : nearestColour m sc q = c := by
  refine nearestColour_eq_of_lt hc fun d hd hne => ?_
  obtain ⟨hcr, hcg, hcb⟩ := palette_channels hc
  obtain ⟨hdr, hdg, hdb⟩ := palette_channels hd
  have hler := hr.le hsc hcr hdr
  have hleg := hg.le hsc hcg hdg
  have hleb := hb.le hsc hcb hdb
  unfold dist
  by_cases hnr : d.r = c.r
  · by_cases hng : d.g = c.g
    · have hnb : d.b ≠ c.b := fun hnb => hne (by cases c; cases d; simp_all)
      linarith [hb.lt hsc hcb hdb hnb]
    · linarith [hg.lt hsc hcg hdg hng]
  · linarith [hr.lt hsc hcr hdr hnr]

theorem nearEnd_scaled (hsc : 0 < sc) (v : Int) : NearEnd sc (sc * v) v := by
  constructor <;> rintro rfl <;> omega

/-- A scaled palette colour is its own nearest colour. -/
theorem nearestColour_scaled (hsc : 0 < sc) (hc : c ∈ palette m) :
    nearestColour m sc { r := sc * c.r, g := sc * c.g, b := sc * c.b } = c :=
  nearestColour_of_nearEnd hsc hc (nearEnd_scaled hsc c.r) (nearEnd_scaled hsc c.g) (nearEnd_scaled hsc c.b)

end Sys2Proof.Machine
end

section
/-! QUANT with ALG NONE and with ordered dithering (41_quantizer.md R133, R134, R140, R141): the engine's event and the
passes in which each pixel becomes a colour that depends on that pixel alone. -/

namespace Sys2Proof.Machine

variable {s t : State} {c : Rgb}

/-! ### The engine's event (41_quantizer.md R133) -/

theorem step_engine_quant (hframer : s.framer = none) (hop : s.curOp = .quantOp) (hwait : s.wait = .engine) :
    step (deliver .engine s) = .next (runQuant s) := by
  have hevent : onEngine s = runQuant s := by
    unfold onEngine
    rw [if_pos hwait, hop]
  rw [step_deliver s _ hframer, ← hevent]
  rfl

theorem complete_of_noError (h : s.errcode = .none) :
    complete s = { s with curOp := .none, wait := .idle, status := { s.status with busy := false, done := true } } :=
  if_pos h

/-- QUANT's completion after a pass over pixel memory. -/
theorem PixOnly.complete (h : PixOnly s t) (herr : s.errcode = .none) :
    complete t =
      { s with
        pix := t.pix, curOp := .none, wait := .idle
        status := { s.status with busy := false, done := true } } := by
  rw [complete_of_noError (by rw [show t = _ from h]; exact herr), show t = _ from h]

@[simp] theorem readAccumulator_complete (s : State) (i : Nat) :
    readAccumulator (complete s) i = readAccumulator s i := by
  simp [readAccumulator]

@[simp] theorem readPixel_complete (s : State) (p : Nat) : readPixel (complete s) p = readPixel s p := by
  simp [readPixel]

/-! ### The pixel that a colour is written to -/

/-- A pixel reads the same where its three accumulators do. -/
theorem readPixel_congr {p : Nat} (h : ∀ i, 3 * p ≤ i → i ≤ 3 * p + 2 → readAccumulator t i = readAccumulator s i) :
    readPixel t p = readPixel s p := by
  unfold readPixel pixelBase
  rw [h _ (by omega) (by omega), h _ (by omega) (by omega), h _ (by omega) (by omega)]

theorem readPixel_writeScaledPixel_palette {m : Mode} (hc : c ∈ palette m) (s : State) (p : Nat) :
    readPixel (writeScaledPixel s p c) p = scaledColour c := by
  obtain ⟨hr, hg, hb⟩ := palette_channels hc
  exact readPixel_writeScaledPixel_same s p c (by omega) (by omega) (by omega)

/-! ### A pass that colours each pixel by itself (41_quantizer.md R134, R141) -/

/-- The pass over pixels 0 to `n - 1` that writes to each the colour chosen for it. -/
def colouredTo (colour : State → Nat → Rgb) (s : State) (n : Nat) : State :=
  (List.range n).foldl (fun t p => writeScaledPixel t p (colour t p)) s

/-- The colour of a pixel is a palette colour and depends on no other pixel. -/
def ColoursAlone (colour : State → Nat → Rgb) : Prop :=
  (∀ s p, colour s p ∈ palette s.mode) ∧
  ∀ s t p, PixOnly s t → readPixel t p = readPixel s p → colour t p = colour s p

variable {colour : State → Nat → Rgb}

theorem colouredTo_succ (colour : State → Nat → Rgb) (s : State) (n : Nat) :
    colouredTo colour s (n + 1) = writeScaledPixel (colouredTo colour s n) n (colour (colouredTo colour s n) n) := by
  simp [colouredTo, List.range_succ]

theorem colouredTo_pixOnly (colour : State → Nat → Rgb) (s : State) (n : Nat) : PixOnly s (colouredTo colour s n) :=
  foldl_keeps (PixOnly s) _ _ (fun p _ t ht => ht.trans (writeScaledPixel_pixOnly t p _)) s (PixOnly.refl s)

/-- The pass leaves every accumulator beyond its pixels. -/
theorem readAccumulator_colouredTo_beyond (colour : State → Nat → Rgb) (s : State) {n i : Nat} (h : 3 * n ≤ i) :
    readAccumulator (colouredTo colour s n) i = readAccumulator s i := by
  induction n with
  | zero => rfl
  | succ n ih => rw [colouredTo_succ, readAccumulator_writeScaledPixel _ _ _ _ (by omega), ih (by omega)]

/-- Each pixel of the pass holds the colour chosen for it before the pass. -/
theorem readPixel_colouredTo (h : ColoursAlone colour) (s : State) {n p : Nat} (hp : p < n) :
    readPixel (colouredTo colour s n) p = scaledColour (colour s p) := by
  obtain ⟨hpalette, halone⟩ := h
  induction n with
  | zero => exact absurd hp (Nat.not_lt_zero p)
  | succ n ih =>
    rw [colouredTo_succ]
    by_cases hlast : p = n
    · subst hlast
      have hbefore : readPixel (colouredTo colour s p) p = readPixel s p :=
        readPixel_congr fun i hi _ => readAccumulator_colouredTo_beyond colour s hi
      rw [readPixel_writeScaledPixel_palette (hpalette _ _), halone _ _ _ (colouredTo_pixOnly colour s p) hbefore]
    · rw [readPixel_writeScaledPixel_other _ _ _ _ hlast, ih (by omega)]

/-- QUANT by such a pass: its next state, the pixels of the image and the accumulators outside it. -/
theorem quant_by_colouredTo (h : ColoursAlone colour) (herr : s.errcode = .none)
    (hrun : runQuant s = complete (colouredTo colour s (pixelCount s))) :
    runQuant s =
      { s with
        pix := (runQuant s).pix, curOp := .none, wait := .idle
        status := { s.status with busy := false, done := true } } ∧
    (∀ p < pixelCount s, readPixel (runQuant s) p = scaledColour (colour s p)) ∧
    ∀ i, 3 * pixelCount s ≤ i → readAccumulator (runQuant s) i = readAccumulator s i := by
  rw [hrun]
  refine ⟨?_, fun p hp => ?_, fun i hi => ?_⟩
  · rw [complete_pix]
    exact (colouredTo_pixOnly colour s _).complete herr
  · rw [readPixel_complete, readPixel_colouredTo h s hp]
  · rw [readAccumulator_complete, readAccumulator_colouredTo_beyond colour s hi]

/-! ### ALG NONE (41_quantizer.md R134) -/

/-- The colour ALG NONE gives a pixel. -/
def plainColour (s : State) (p : Nat) : Rgb := nearestColour s.mode 1 (viewPixel s p)

theorem viewPixel_congr {p : Nat} (h : readPixel t p = readPixel s p) : viewPixel t p = viewPixel s p := by
  rw [viewPixel, viewPixel, h]

theorem plainColour_alone : ColoursAlone plainColour := by
  refine ⟨fun s p => nearestColour_mem _ _ _, fun s t p ht hp => ?_⟩
  unfold plainColour
  rw [viewPixel_congr hp, show t.mode = s.mode by rw [show t = _ from ht]]

theorem runQuant_plain (halg : s.alg = .plain) : runQuant s = complete (colouredTo plainColour s (pixelCount s)) := by
  unfold runQuant
  rw [halg]
  rfl

/-- Settles O22. -/
theorem quantPlainResult : Obligations.QuantPlainResult := fun s hframer hop hwait herr halg =>
  ⟨runQuant s, step_engine_quant hframer hop hwait, quant_by_colouredTo plainColour_alone herr (runQuant_plain halg)⟩

/-! ### Ordered dithering (41_quantizer.md R140) -/

/-- The colour ordered dithering gives a pixel. -/
def orderedColour (s : State) (p : Nat) : Rgb :=
  let v := viewPixel s p
  let f := perturbed (threshold s p) s.amp.toNat
  nearestColour s.mode 128 { r := f v.r, g := f v.g, b := f v.b }

theorem orderedColour_alone : ColoursAlone orderedColour := by
  refine ⟨fun s p => nearestColour_mem _ _ _, fun s t p ht hp => ?_⟩
  have hthreshold : threshold t p = threshold s p := by rw [show t = _ from ht]; rfl
  unfold orderedColour
  rw [viewPixel_congr hp, hthreshold, show t.mode = s.mode by rw [show t = _ from ht],
    show t.amp = s.amp by rw [show t = _ from ht]]

theorem runQuant_ordered (halg : s.alg = .ordered) :
    runQuant s = complete (colouredTo orderedColour s (pixelCount s)) := by
  unfold runQuant
  rw [halg]
  rfl

/-! #### Pixel coordinates (00_scope.md R14) -/

theorem pixelX_rowMajor {w x : Nat} (hx : x < w) (y : Nat) : pixelX w (y * w + x) = x := by
  exact Nat.mul_add_mod_of_lt hx

theorem pixelY_rowMajor {w x : Nat} (hx : x < w) (y : Nat) : pixelY w (y * w + x) = y := by
  rw [pixelY, Nat.mul_comm, Nat.mul_add_div (Nat.zero_lt_of_lt hx), Nat.div_eq_of_lt hx, Nat.add_zero]

theorem rowMajor_lt {w h x y : Nat} (hx : x < w) (hy : y < h) : y * w + x < w * h :=
  calc y * w + x < (y + 1) * w := by rw [Nat.succ_mul]; omega
    _ ≤ h * w := Nat.mul_le_mul_right w hy
    _ = w * h := Nat.mul_comm h w

theorem threshold_rowMajor {x : Nat} (hx : x < s.resW.toNat) (y : Nat) :
    threshold s (y * s.resW.toNat + x) = bayerEntry s (8 * (y % 8) + x % 8) := by
  rw [threshold, pixelX_rowMajor hx, pixelY_rowMajor hx]

/-- Settles O23. -/
theorem quantOrderedResult : Obligations.QuantOrderedResult := by
  intro s hframer hop hwait herr halg
  obtain ⟨hnext, hpixels, hbeyond⟩ := quant_by_colouredTo orderedColour_alone herr (runQuant_ordered halg)
  refine ⟨runQuant s, step_engine_quant hframer hop hwait, hnext, fun x hx y hy => ?_, hbeyond⟩
  dsimp only
  rw [hpixels _ (rowMajor_lt hx hy), orderedColour, threshold_rowMajor hx]
  rfl

end Sys2Proof.Machine
end

section
/-! One pixel of error diffusion (41_quantizer.md R135 to R138): the accumulator update, the pixels a kernel cell
addresses, and what each accumulator receives. -/

namespace Sys2Proof.Machine

variable {s t v : State} {u : Nat × Int}

/-! ### One accumulator update (41_quantizer.md R138) -/

/-- The signed 32-bit range. -/
def InRange (a : Int) : Prop := -2147483648 ≤ a ∧ a ≤ 2147483647

theorem not_inRange_iff {a : Int} : ¬InRange a ↔ a < -2147483648 ∨ 2147483647 < a := by
  unfold InRange
  omega

theorem toInt_ofInt_inRange {a : Int} (h : InRange a) : (BitVec.ofInt 32 a).toInt = a :=
  BitVec.toInt_ofInt_eq_self (by decide) h.1 (Int.lt_add_one_of_le h.2)

/-- The sum an update makes. -/
def updateSum (u : Nat × Int) (s : State) : Int := (readAccumulator s u.1).toInt + u.2

theorem addShare_inRange (h : InRange (updateSum u s)) :
    addShare u s = .going (writeAccumulator s u.1 (BitVec.ofInt 32 (updateSum u s))) :=
  if_neg fun hout => not_inRange_iff.2 hout h

theorem addShare_outOfRange (h : ¬InRange (updateSum u s)) : addShare u s = .overflowed s :=
  if_pos (not_inRange_iff.1 h)

theorem addShare_going_iff :
    addShare u s = .going t ↔
      InRange (updateSum u s) ∧ t = writeAccumulator s u.1 (BitVec.ofInt 32 (updateSum u s)) := by
  by_cases h : InRange (updateSum u s)
  · simp [addShare_inRange h, h, eq_comm]
  · simp [addShare_outOfRange h, h]

theorem addShare_overflowed_iff : addShare u s = .overflowed v ↔ ¬InRange (updateSum u s) ∧ v = s := by
  by_cases h : InRange (updateSum u s)
  · simp [addShare_inRange h, h]
  · simp [addShare_outOfRange h, h, eq_comm]

/-- An update that is made adds its share to its own accumulator and nothing to any other. -/
theorem toInt_addShare (h : addShare u s = .going t) (i : Nat) :
    (readAccumulator t i).toInt = (readAccumulator s i).toInt + if i = u.1 then u.2 else 0 := by
  obtain ⟨hrange, rfl⟩ := addShare_going_iff.1 h
  rw [readAccumulator_write]
  split
  · rename_i hi
    rw [hi, toInt_ofInt_inRange hrange, updateSum]
  · rw [Int.add_zero]

/-! ### Updates one after the other -/

/-- What a list of updates adds to accumulator `i`. -/
def addedTo (i : Nat) (updates : List (Nat × Int)) : Int := (updates.map fun u => if i = u.1 then u.2 else 0).sum

theorem addedTo_flatMap {α : Type} (i : Nat) (l : List α) (f : α → List (Nat × Int)) :
    addedTo i (l.flatMap f) = (l.map fun a => addedTo i (f a)).sum := by
  induction l with
  | nil => rfl
  | cons a rest ih => rw [List.map_cons, List.sum_cons, ← ih]; simp [addedTo]

theorem toInt_runAll_addShare {updates : List (Nat × Int)} (h : runAll addShare updates s = .going t) (i : Nat) :
    (readAccumulator t i).toInt = (readAccumulator s i).toInt + addedTo i updates := by
  induction updates generalizing s with
  | nil => cases h; simp [addedTo]
  | cons u rest ih =>
    unfold runAll at h
    split at h
    · rename_i s' hs
      rw [ih h, toInt_addShare hs]
      simp [addedTo, Int.add_assoc]
    · cases h

/-! ### The pixel step (41_quantizer.md R135) -/

/-- The error of a pixel against its nearest colour. -/
def pixelError (s : State) (p : Nat) : Rgb :=
  let a := readPixel s p
  let c := nearestColour s.mode 256 a
  { r := a.r - 256 * c.r, g := a.g - 256 * c.g, b := a.b - 256 * c.b }

/-- The pixel step before its error is spread. -/
def quantizedPixel (s : State) (p : Nat) : State := writeScaledPixel s p (nearestColour s.mode 256 (readPixel s p))

/-- The updates of the pixel step, in order. -/
def pixelShares (s : State) (p : Nat) : List (Nat × Int) := kernelGrid.flatMap (cellShares s p (pixelError s p))

theorem diffusePixel_eq (p : Nat) (s : State) :
    diffusePixel p s = runAll addShare (pixelShares s p) (quantizedPixel s p) := rfl

/-- The kernel grid is three rows of five columns. -/
theorem kernelGrid_eq : kernelGrid = List.range 3 ×ˢ List.range 5 := by decide

theorem mem_kernelGrid_iff {cell : Nat × Nat} : cell ∈ kernelGrid ↔ cell.1 < 3 ∧ cell.2 < 5 := by
  rw [kernelGrid_eq, List.mem_product, List.mem_range, List.mem_range]

theorem flatMap_kernelGrid {α : Type} (f : Nat × Nat → List α) :
    kernelGrid.flatMap f = (List.range 3).flatMap fun r => (List.range 5).flatMap fun cc => f (r, cc) := by
  rw [kernelGrid_eq]
  simp only [SProd.sprod, List.product, List.flatMap_assoc, List.flatMap_map]

/-! ### The pixels a kernel cell addresses (41_quantizer.md R136) -/

theorem rowMajor_inj {w x y x' y' : Nat} (hx : x < w) (hx' : x' < w) (h : y * w + x = y' * w + x') :
    x = x' ∧ y = y' :=
  ⟨by rw [← pixelX_rowMajor hx y, h, pixelX_rowMajor hx'], by rw [← pixelY_rowMajor hx y, h, pixelY_rowMajor hx']⟩

/-- The weight between a pixel and the one a kernel cell addresses is that cell's, or 0 for a pixel already processed. -/
theorem weightBetween_offset {x cc r : Nat} (y : Nat) (hr : r < 3) (hcc : cc < 5) (ha : s.kanchor.toNat ≤ x + cc) :
    weightBetween s x y (x + cc - s.kanchor.toNat) (y + r) =
      if 0 < r ∨ s.kanchor.toNat < cc then kernelWeight s r cc else 0 := by
  have hcolumn : x + cc - s.kanchor.toNat + s.kanchor.toNat - x = cc := by omega
  unfold weightBetween
  dsimp only
  rw [if_neg (by omega), hcolumn]
  interval_cases r
  · rw [if_pos (Nat.add_zero y)]
    exact if_congr (by omega) rfl rfl
  · rw [if_neg (by omega), if_pos rfl, if_pos (by omega)]
  · rw [if_neg (by omega), if_neg (by omega), if_pos rfl, if_pos (by omega)]

/-- Error goes to the pixels of a kernel cell only. -/
theorem cell_of_weightBetween {x y nx ny : Nat} (h : weightBetween s x y nx ny ≠ 0) :
    ∃ r < 3, ∃ cc < 5, ny = y + r ∧ nx = x + cc - s.kanchor.toNat ∧ s.kanchor.toNat ≤ x + cc := by
  unfold weightBetween at h
  dsimp only at h
  split at h
  · exact absurd rfl h
  · have hrow : ∃ r < 3, ny = y + r := by
      split at h
      · exact ⟨0, by omega, by omega⟩
      · split at h
        · exact ⟨1, by omega, by omega⟩
        · split at h
          · exact ⟨2, by omega, by omega⟩
          · exact absurd rfl h
    obtain ⟨r, hr, hny⟩ := hrow
    exact ⟨r, hr, nx + s.kanchor.toNat - x, by omega, hny, by omega, by omega⟩

/-- No error goes to a pixel already processed (41_quantizer.md R139). -/
theorem weightBetween_processed {x y nx ny : Nat} (h : ny < y ∨ (ny = y ∧ nx ≤ x)) : weightBetween s x y nx ny = 0 := by
  unfold weightBetween
  dsimp only
  split
  · rfl
  · rcases h with hy | ⟨hy, hx⟩
    · rw [if_neg (by omega), if_neg (by omega), if_neg (by omega)]
    · rw [if_pos hy, if_neg (by omega)]

/-- A kernel cell propagates to the pixel it addresses when that pixel lies in the image and has a weight. -/
theorem kernelTarget_rowMajor {x r cc : Nat} (hx : x < s.resW.toNat) (y : Nat) (hr : r < 3) (hcc : cc < 5) :
    kernelTarget s (y * s.resW.toNat + x) (r, cc) =
      if s.kanchor.toNat ≤ x + cc ∧ x + cc - s.kanchor.toNat < s.resW.toNat ∧ y + r < s.resH.toNat ∧
          weightBetween s x y (x + cc - s.kanchor.toNat) (y + r) ≠ 0
      then some ((y + r) * s.resW.toNat + (x + cc - s.kanchor.toNat)) else none := by
  unfold kernelTarget
  dsimp only
  rw [pixelX_rowMajor hx, pixelY_rowMajor hx]
  refine if_congr ⟨?_, ?_⟩ rfl rfl
  · rintro ⟨hweight, hopen, ha, hcolumn, hrow⟩
    refine ⟨ha, hcolumn, hrow, ?_⟩
    rwa [weightBetween_offset y hr hcc ha, if_pos hopen]
  · rintro ⟨ha, hcolumn, hrow, hweight⟩
    rw [weightBetween_offset y hr hcc ha] at hweight
    obtain ⟨hopen, hne⟩ := ite_ne_right_iff.1 hweight
    exact ⟨hne, hopen, ha, hcolumn, hrow⟩

/-- The weight of a cell that propagates. -/
theorem kernelWeight_of_weightBetween {x y r cc : Nat} (hr : r < 3) (hcc : cc < 5) (ha : s.kanchor.toNat ≤ x + cc)
    (h : weightBetween s x y (x + cc - s.kanchor.toNat) (y + r) ≠ 0) :
    kernelWeight s r cc = weightBetween s x y (x + cc - s.kanchor.toNat) (y + r) := by
  rw [weightBetween_offset y hr hcc ha] at h ⊢
  rw [if_pos (ite_ne_right_iff.1 h).1]

/-- The model's updates of a pixel step are those the statements list, in the same order. -/
theorem pixelUpdates_eq {x : Nat} (hx : x < s.resW.toNat) (y : Nat) :
    pixelUpdates s x y = pixelShares s (y * s.resW.toNat + x) := by
  unfold pixelShares pixelUpdates
  rw [flatMap_kernelGrid]
  refine List.flatMap_congr fun r hr => List.flatMap_congr fun cc hcc => ?_
  have hr := List.mem_range.1 hr
  have hcc := List.mem_range.1 hcc
  unfold cellShares
  rw [kernelTarget_rowMajor hx y hr hcc]
  dsimp only
  split
  · rename_i hin
    obtain ⟨ha, _, _, hweight⟩ := hin
    rw [kernelWeight_of_weightBetween hr hcc ha hweight]
    rfl
  · rfl

/-- Settles O25: a pixel that overflows does so at one of its updates. -/
theorem accumulatorUpdateExact : Obligations.AccumulatorUpdateExact := by
  refine ⟨fun s i d => ⟨fun hlow hhigh => ?_, fun hout => ?_⟩, ?_⟩
  · have hmade := addShare_inRange (u := (i, d)) (s := s) ⟨hlow, hhigh⟩
    refine ⟨_, hmade, ?_, fun j hj => ?_, rfl⟩
    · rw [toInt_addShare hmade, if_pos rfl]
    · rw [readAccumulator_write, if_neg hj]
  · exact addShare_outOfRange (not_inRange_iff.2 hout)
  · intro s v x y hx _ p hp
    rw [diffusePixel_eq] at hp
    obtain ⟨k, u, w, hk, hbefore, hover⟩ := runAll_overflowed _ _ _ _ hp
    obtain ⟨hout, rfl⟩ := addShare_overflowed_iff.1 hover
    rw [pixelUpdates_eq hx]
    exact ⟨k, u, hk, hbefore, not_inRange_iff.1 hout⟩

/-! ### What an accumulator receives (41_quantizer.md R137) -/

/-- A channel of a colour: R 0, G 1, B 2 (10_state.md R47). -/
def Rgb.channel (q : Rgb) : Nat → Int
  | 0 => q.r
  | 1 => q.g
  | _ => q.b

theorem toInt_readAccumulator (s : State) (p : Nat) {ch : Nat} (hch : ch < 3) :
    (readAccumulator s (3 * p + ch)).toInt = (readPixel s p).channel ch := by
  interval_cases ch <;> rfl

theorem readPixel_eq_of_channels {p : Nat} {q : Rgb}
    (h : ∀ ch < 3, (readAccumulator s (3 * p + ch)).toInt = q.channel ch) : readPixel s p = q := by
  have hr := h 0 (by omega)
  have hg := h 1 (by omega)
  have hb := h 2 (by omega)
  cases q
  exact congr (congr (congrArg Rgb.mk hr) hg) hb

/-- A cell adds its share of a channel's error to that channel of the pixel it propagates to, and nothing elsewhere. -/
theorem addedTo_cellShares (s : State) (p q : Nat) (e : Rgb) (cell : Nat × Nat) {ch : Nat} (hch : ch < 3) :
    addedTo (3 * q + ch) (cellShares s p e cell) =
      if kernelTarget s p cell = some q
      then errorShare (e.channel ch) (kernelWeight s cell.1 cell.2) s.kdiv.toNat else 0 := by
  unfold cellShares
  cases kernelTarget s p cell with
  | none => rfl
  | some q' =>
    by_cases hq : q' = q
    · subst hq
      rw [if_pos rfl]
      interval_cases ch <;> simp [addedTo, pixelBase, Rgb.channel]
    · rw [if_neg (by simpa using hq)]
      simp only [addedTo, pixelBase, List.map_cons, List.map_nil, List.sum_cons, List.sum_nil]
      rw [if_neg (by omega), if_neg (by omega), if_neg (by omega)]
      rfl

theorem errorShare_zero_weight (e : Int) (d : Nat) : errorShare e 0 d = 0 := by simp [errorShare, fdiv]

/-- A sum with one term that is not 0. -/
theorem sum_map_of_single {α : Type} [DecidableEq α] {l : List α} {a : α} {f : α → Int} (hl : l.Nodup) (ha : a ∈ l)
    (h : ∀ b, b ≠ a → b ∈ l → f b = 0) : (l.map f).sum = f a := by
  rw [List.sum_map_eq_nsmul_single a f h, List.count_eq_one_of_mem hl ha, one_nsmul]

/-- A pixel of the image receives the share of the one kernel entry that addresses it. -/
theorem addedTo_pixelShares {x y nx ny ch : Nat} (hx : x < s.resW.toNat) (hnx : nx < s.resW.toNat)
    (hny : ny < s.resH.toNat) (hch : ch < 3) :
    addedTo (3 * (ny * s.resW.toNat + nx) + ch) (pixelShares s (y * s.resW.toNat + x)) =
      errorShare ((pixelError s (y * s.resW.toNat + x)).channel ch) (weightBetween s x y nx ny) s.kdiv.toNat := by
  rw [pixelShares, addedTo_flatMap]
  simp only [addedTo_cellShares _ _ _ _ _ hch]
  -- a cell that propagates to `(nx, ny)` stands at that pixel's offset and has its weight
  have haddressed : ∀ cell ∈ kernelGrid,
      kernelTarget s (y * s.resW.toNat + x) cell = some (ny * s.resW.toNat + nx) →
      (ny = y + cell.1 ∧ x + cell.2 = nx + s.kanchor.toNat) ∧ weightBetween s x y nx ny ≠ 0 := by
    rintro ⟨r, cc⟩ hcell htarget
    obtain ⟨hr, hcc⟩ := mem_kernelGrid_iff.1 hcell
    rw [kernelTarget_rowMajor hx y hr hcc] at htarget
    obtain ⟨⟨ha, hcolumn, _, hweight⟩, hsome⟩ := Option.ite_none_right_eq_some.1 htarget
    obtain ⟨rfl, rfl⟩ := rowMajor_inj hcolumn hnx (Option.some.inj hsome)
    exact ⟨⟨rfl, by dsimp only; omega⟩, hweight⟩
  by_cases hweight : weightBetween s x y nx ny = 0
  · rw [hweight, errorShare_zero_weight]
    refine List.sum_eq_zero fun a ha => ?_
    obtain ⟨cell, hcell, rfl⟩ := List.mem_map.1 ha
    exact if_neg fun htarget => (haddressed cell hcell htarget).2 hweight
  · obtain ⟨r, hr, cc, hcc, rfl, rfl, ha⟩ := cell_of_weightBetween hweight
    have hmem : (r, cc) ∈ kernelGrid := mem_kernelGrid_iff.2 ⟨hr, hcc⟩
    rw [sum_map_of_single (by decide) hmem, if_pos, kernelWeight_of_weightBetween hr hcc ha hweight]
    · rw [kernelTarget_rowMajor hx y hr hcc, if_pos ⟨ha, hnx, hny, hweight⟩]
    · intro cell hne hcell
      refine if_neg fun htarget => hne ?_
      obtain ⟨⟨hrow, hcolumn⟩, _⟩ := haddressed cell hcell htarget
      exact Prod.ext (by omega) (by dsimp only; omega)

/-- What every pixel of the image holds after a pixel step that does not overflow. -/
theorem readPixel_diffusePixel {x y nx ny : Nat} (h : diffusePixel (y * s.resW.toNat + x) s = .going t)
    (hx : x < s.resW.toNat) (hnx : nx < s.resW.toNat) (hny : ny < s.resH.toNat) :
    let before := readPixel (quantizedPixel s (y * s.resW.toNat + x)) (ny * s.resW.toNat + nx)
    let e := pixelError s (y * s.resW.toNat + x)
    let share := fun e : Int => errorShare e (weightBetween s x y nx ny) s.kdiv.toNat
    readPixel t (ny * s.resW.toNat + nx) =
      { r := before.r + share e.r, g := before.g + share e.g, b := before.b + share e.b } := by
  refine readPixel_eq_of_channels fun ch hch => ?_
  rw [diffusePixel_eq] at h
  rw [toInt_runAll_addShare h, addedTo_pixelShares hx hnx hny hch, toInt_readAccumulator _ _ hch]
  interval_cases ch <;> rfl

/-- A pixel already processed keeps what it holds, and the pixel itself holds the colour written to it. -/
theorem readPixel_diffusePixel_processed {x y nx ny : Nat} (h : diffusePixel (y * s.resW.toNat + x) s = .going t)
    (hx : x < s.resW.toNat) (hnx : nx < s.resW.toNat) (hny : ny < s.resH.toNat)
    (hbefore : ny < y ∨ (ny = y ∧ nx ≤ x)) :
    readPixel t (ny * s.resW.toNat + nx) =
      readPixel (quantizedPixel s (y * s.resW.toNat + x)) (ny * s.resW.toNat + nx) := by
  rw [readPixel_diffusePixel h hx hnx hny, weightBetween_processed hbefore]
  simp only [errorShare_zero_weight, Int.add_zero]

/-- The pixel of the step holds its nearest colour exactly. -/
theorem readPixel_quantizedPixel (s : State) (p : Nat) :
    readPixel (quantizedPixel s p) p = scaledColour (nearestColour s.mode 256 (readPixel s p)) :=
  readPixel_writeScaledPixel_palette (nearestColour_mem _ _ _) s p

/-! ### What the step leaves (41_quantizer.md R139) -/

/-- `t` is `s` but for pixel memory below accumulator `n`. -/
def SameFrom (n : Nat) (s t : State) : Prop :=
  PixOnly s t ∧ ∀ i, n ≤ i → readAccumulator t i = readAccumulator s i

theorem SameFrom.refl (n : Nat) (s : State) : SameFrom n s s := ⟨PixOnly.refl s, fun _ _ => rfl⟩

theorem SameFrom.addShare {n : Nat} (h : SameFrom n s t) (hu : u.1 < n) : SameFrom n s (addShare u t).last := by
  obtain ⟨honly, hsame⟩ := h
  refine ⟨honly.trans (addShare_pixOnly u t), fun i hi => ?_⟩
  unfold Machine.addShare
  dsimp only
  split
  · exact hsame i hi
  · exact (readAccumulator_write ..).trans ((if_neg (by omega)).trans (hsame i hi))

theorem SameFrom.writeScaledPixel {p n : Nat} (h : SameFrom n s t) (hp : 3 * p + 2 < n) (c : Rgb) :
    SameFrom n s (writeScaledPixel t p c) := by
  obtain ⟨honly, hsame⟩ := h
  refine ⟨honly.trans (writeScaledPixel_pixOnly t p c), fun i hi => ?_⟩
  rw [readAccumulator_writeScaledPixel t p i c (by omega), hsame i hi]

/-- A pixel step, to its end or to its overflow, changes nothing outside the image. -/
theorem SameFrom.diffusePixel {p : Nat} (h : SameFrom (3 * pixelCount s) s t) (hp : p < pixelCount s) :
    SameFrom (3 * pixelCount s) s (diffusePixel p t).last := by
  rw [diffusePixel_eq]
  refine runAll_keeps (SameFrom (3 * pixelCount s) s) Machine.addShare _ (fun u hu t' ht' => ht'.addShare ?_) _
    (h.writeScaledPixel (by omega) _)
  obtain ⟨cell, _, hcell⟩ := List.mem_flatMap.1 hu
  have hlt := cellShares_lt hcell
  rwa [h.1.pixelCount] at hlt

/-- Settles O24. -/
theorem diffusionStep : Obligations.DiffusionStep := by
  intro s t x y hx hy hgoing a c
  have hframe := (SameFrom.refl _ s).diffusePixel (rowMajor_lt hx hy)
  rw [hgoing] at hframe
  obtain ⟨honly, hbeyond⟩ := hframe
  refine ⟨?_, fun nx hnx ny hny hne => ?_, hbeyond, honly⟩
  · rw [readPixel_diffusePixel_processed hgoing hx hx hy (.inr ⟨rfl, le_refl x⟩)]
    exact readPixel_quantizedPixel s _
  · have hother : ny * s.resW.toNat + nx ≠ y * s.resW.toNat + x := fun heq =>
      hne (Prod.ext_iff.2 (rowMajor_inj hnx hx heq))
    have hbefore := readPixel_writeScaledPixel_other s (y * s.resW.toNat + x) _ c hother
    dsimp only
    rw [readPixel_diffusePixel hgoing hx hnx hny, ← hbefore]
    rfl

end Sys2Proof.Machine
end

section
/-! The error-diffusion pass (41_quantizer.md R135, R138, R139, R142), and QUANT on an image of palette colours
(R143, R144). -/

namespace Sys2Proof.Machine

variable {s t u v : State} {n p : Nat} {c : Rgb}

/-! ### Row-major order (41_quantizer.md R135) -/

theorem exists_rowMajor (hp : p < pixelCount s) :
    ∃ x < s.resW.toNat, ∃ y < s.resH.toNat, p = y * s.resW.toNat + x := by
  have hw : 0 < s.resW.toNat := Nat.pos_of_mul_pos_right (Nat.lt_of_le_of_lt (Nat.zero_le p) hp)
  exact ⟨p % s.resW.toNat, Nat.mod_lt _ hw, p / s.resW.toNat, Nat.div_lt_of_lt_mul hp, (Nat.div_add_mod' _ _).symm⟩

/-- A pixel that is not after another stands in an earlier row, or in the same row and not to its right. -/
theorem rowMajor_le {w x y x' y' : Nat} (hx : x < w) (h : y' * w + x' ≤ y * w + x) : y' < y ∨ (y' = y ∧ x' ≤ x) := by
  rcases Nat.lt_trichotomy y' y with hlt | rfl | hgt
  · exact .inl hlt
  · exact .inr ⟨rfl, by omega⟩
  · have hrow : (y + 1) * w ≤ y' * w := Nat.mul_le_mul_right w hgt
    rw [Nat.succ_mul] at hrow
    omega

/-- After its step neither a pixel nor any before it changes again within that step. -/
theorem readPixel_diffusePixel_le {q : Nat} (h : diffusePixel p s = .going t) (hp : p < pixelCount s) (hq : q ≤ p) :
    readPixel t q = readPixel (quantizedPixel s p) q := by
  obtain ⟨x, hx, y, hy, rfl⟩ := exists_rowMajor hp
  obtain ⟨nx, hnx, ny, hny, rfl⟩ := exists_rowMajor (Nat.lt_of_le_of_lt hq hp)
  exact readPixel_diffusePixel_processed h hx hnx hny (rowMajor_le hx hq)

/-! ### The pass (41_quantizer.md R138, R139, R142) -/

theorem PixOnly.mode (h : PixOnly s t) : t.mode = s.mode := by rw [show t = _ from h]

theorem PixOnly.errcode (h : PixOnly s t) : t.errcode = s.errcode := by rw [show t = _ from h]

/-- The pass, to its end or to its overflow, changes nothing outside the image. -/
theorem diffusedTo_sameFrom (hn : n ≤ pixelCount s) : SameFrom (3 * pixelCount s) s (diffusedTo s n).last := by
  rw [diffusedTo_eq_runAll]
  exact runAll_keeps (SameFrom (3 * pixelCount s) s) diffusePixel _
    (fun p hp t ht => ht.diffusePixel (Nat.lt_of_lt_of_le (List.mem_range.1 hp) hn)) s (SameFrom.refl _ s)

theorem diffusedTo_going_succ (h : diffusedTo s (n + 1) = .going t) :
    ∃ u, diffusedTo s n = .going u ∧ diffusePixel n u = .going t := by
  unfold diffusedTo at h
  split at h
  · exact ⟨_, ‹_›, h⟩
  · cases h

/-- A pass that overflows does so in the step of one pixel, after the pass over the pixels before it. -/
theorem diffusedTo_overflowed (h : diffusedTo s n = .overflowed v) :
    ∃ p < n, ∃ u, diffusedTo s p = .going u ∧ diffusePixel p u = .overflowed v := by
  induction n with
  | zero => cases h
  | succ n ih =>
    unfold diffusedTo at h
    split at h
    · exact ⟨n, Nat.lt_succ_self n, _, ‹_›, h⟩
    · rename_i v' hv
      cases h
      obtain ⟨p, hp, u, hu, hover⟩ := ih hv
      exact ⟨p, Nat.lt_succ_of_lt hp, u, hu, hover⟩

/-- Every pixel the pass has processed is exactly a palette colour. -/
theorem diffusedTo_palette (hn : n ≤ pixelCount s) (h : diffusedTo s n = .going t) (hp : p < n) :
    ∃ c ∈ palette s.mode, readPixel t p = scaledColour c := by
  induction n generalizing t with
  | zero => exact absurd hp (Nat.not_lt_zero p)
  | succ n ih =>
    obtain ⟨u, hu, hstep⟩ := diffusedTo_going_succ h
    have hframe := diffusedTo_sameFrom (Nat.le_of_succ_le hn)
    rw [hu] at hframe
    obtain ⟨honly, _⟩ : SameFrom _ s u := hframe
    rw [readPixel_diffusePixel_le hstep (by rwa [honly.pixelCount]) (Nat.le_of_lt_succ hp)]
    by_cases hlast : p = n
    · subst hlast
      exact ⟨_, honly.mode ▸ nearestColour_mem _ _ _, readPixel_quantizedPixel u p⟩
    · rw [quantizedPixel, readPixel_writeScaledPixel_other _ _ _ _ hlast]
      exact ih (Nat.le_of_succ_le hn) hu (by omega)

/-! ### QUANT with error diffusion (41_quantizer.md R133, 60_exceptions.md R234) -/

theorem runQuant_going (halg : s.alg = .errorDiffusion) (h : diffusedTo s (pixelCount s) = .going u) :
    runQuant s = complete u := by
  rw [diffusedTo_eq_runAll] at h
  unfold runQuant
  rw [halg]
  dsimp only
  rw [h]

theorem runQuant_overflowed (halg : s.alg = .errorDiffusion) (h : diffusedTo s (pixelCount s) = .overflowed v) :
    runQuant s = raiseError .accOverflow v := by
  rw [diffusedTo_eq_runAll] at h
  unfold runQuant
  rw [halg]
  dsimp only
  rw [h]

/-- QUANT's end after an overflow. -/
theorem PixOnly.raise_accOverflow (h : PixOnly s v) (herr : s.errcode = .none) :
    raiseError .accOverflow v =
      { s with
        pix := v.pix, curOp := .none, wait := .idle, errcode := .accOverflow
        status := { s.status with busy := false, err := true } } := by
  have hrecorded : recordError .accOverflow v = { v with errcode := .accOverflow } := if_pos (h.errcode.trans herr)
  have hcode : ErrCode.accOverflow ≠ .none := by decide
  rw [raiseError_local _ _ rfl, hrecorded, complete_of_error hcode, show v = _ from h]

/-- Settles O26. -/
theorem quantDiffusionOutcome : Obligations.QuantDiffusionOutcome := by
  intro s hframer hop hwait herr halg
  have hframe := diffusedTo_sameFrom (le_refl (pixelCount s))
  refine ⟨runQuant s, step_engine_quant hframer hop hwait, ?_⟩
  cases hpass : diffusedTo s (pixelCount s) with
  | going u =>
    rw [hpass] at hframe
    obtain ⟨honly, hbeyond⟩ : SameFrom _ s u := hframe
    rw [runQuant_going halg hpass]
    refine ⟨fun i hi => ?_, .inl ⟨u, hpass, honly.complete herr, fun p hp => ?_⟩⟩
    · rw [readAccumulator_complete]
      exact hbeyond i hi
    · rw [readPixel_complete]
      exact diffusedTo_palette (le_refl _) hpass hp
  | overflowed v =>
    rw [hpass] at hframe
    obtain ⟨honly, hbeyond⟩ : SameFrom _ s v := hframe
    obtain ⟨p, hp, u, hu, hover⟩ := diffusedTo_overflowed hpass
    rw [runQuant_overflowed halg hpass]
    refine ⟨fun i hi => ?_, .inr ⟨p, u, v, hp, hu, hover, honly.raise_accOverflow herr⟩⟩
    rw [← hbeyond i hi, honly.raise_accOverflow herr, show v = _ from honly]
    rfl

/-! ### An image of palette colours (41_quantizer.md R143, R144) -/

theorem readPixel_of_same (h : SameFrom 0 s t) (p : Nat) : readPixel t p = readPixel s p :=
  readPixel_congr fun i _ _ => h.2 i (Nat.zero_le i)

theorem SameFrom.trans (h : SameFrom n s t) (h' : SameFrom n t u) : SameFrom n s u :=
  ⟨h.1.trans h'.1, fun i hi => (h'.2 i hi).trans (h.2 i hi)⟩

/-- Writing the colour a pixel already holds changes nothing. -/
theorem writeScaledPixel_same (h : readPixel s p = scaledColour c) : SameFrom 0 s (writeScaledPixel s p c) := by
  have hr : (readAccumulator s (3 * p)).toInt = 256 * c.r := congrArg Rgb.r h
  have hg : (readAccumulator s (3 * p + 1)).toInt = 256 * c.g := congrArg Rgb.g h
  have hb : (readAccumulator s (3 * p + 2)).toInt = 256 * c.b := congrArg Rgb.b h
  refine ⟨writeScaledPixel_pixOnly s p c, fun i _ => ?_⟩
  simp only [writeScaledPixel, pixelBase, readAccumulator_write, ← hr, ← hg, ← hb, BitVec.ofInt_toInt]
  split_ifs with h2 h1 h0
  · rw [h2]
  · rw [h1]
  · rw [h0]
  · rfl

/-- A pass that gives each pixel the colour it holds changes nothing. -/
theorem colouredTo_same {colour : State → Nat → Rgb} (h : ColoursAlone colour)
    (hs : ∀ p < n, readPixel s p = scaledColour (colour s p)) : SameFrom 0 s (colouredTo colour s n) := by
  refine foldl_keeps (SameFrom 0 s) _ _ (fun p hp t ht => ht.trans (writeScaledPixel_same ?_)) s (SameFrom.refl 0 s)
  have hread := readPixel_of_same ht p
  rw [h.2 s t p ht.1 hread, hread]
  exact hs p (List.mem_range.1 hp)

/-- The view of a pixel that holds a palette colour is that colour (41_quantizer.md R131). -/
theorem viewPixel_of_palette {m : Mode} (hc : c ∈ palette m) (h : readPixel s p = scaledColour c) : viewPixel s p = c := by
  have hview : ∀ a : Int, a = 0 ∨ a = 255 → view (256 * a) = a := by
    rintro a (rfl | rfl) <;> rfl
  obtain ⟨hr, hg, hb⟩ := palette_channels hc
  unfold viewPixel
  rw [h]
  dsimp only [scaledColour]
  rw [hview _ hr, hview _ hg, hview _ hb]

theorem plainColour_of_palette (hc : c ∈ palette s.mode) (h : readPixel s p = scaledColour c) : plainColour s p = c := by
  have hnear := nearestColour_scaled (sc := 1) (by decide) hc
  simp only [Int.one_mul] at hnear
  rw [plainColour, viewPixel_of_palette hc h]
  exact hnear

/-- With AMP up to 254 no threshold carries a channel of a palette colour past the middle (41_quantizer.md R144). -/
theorem perturbed_nearEnd {threshold amp : Nat} {a : Int} (ht : threshold < 64) (hamp : amp ≤ 254)
    (ha : a = 0 ∨ a = 255) : NearEnd 128 (perturbed threshold amp a) a := by
  have hlow : -16256 ≤ (2 * (threshold : Int) - 64) * (amp : Int) := by nlinarith
  have hhigh : (2 * (threshold : Int) - 64) * (amp : Int) ≤ 16256 := by nlinarith
  unfold perturbed clamp
  generalize (2 * (threshold : Int) - 64) * (amp : Int) = d at hlow hhigh
  constructor <;> rintro rfl <;> split_ifs <;> omega

theorem threshold_lt (s : State) (p : Nat) : threshold s p < 64 := BitVec.isLt _

theorem orderedColour_of_palette (hamp : s.amp.toNat ≤ 254) (hc : c ∈ palette s.mode)
    (h : readPixel s p = scaledColour c) : orderedColour s p = c := by
  obtain ⟨hr, hg, hb⟩ := palette_channels hc
  have ht := threshold_lt s p
  unfold orderedColour
  rw [viewPixel_of_palette hc h]
  exact nearestColour_of_nearEnd (by decide) hc (perturbed_nearEnd ht hamp hr) (perturbed_nearEnd ht hamp hg)
    (perturbed_nearEnd ht hamp hb)

/-! #### Error diffusion without error -/

/-- A pass whose turns all go on goes on to its end. -/
theorem runAll_going {α : Type} (P : State → Prop) {f : α → State → Pass} {l : List α}
    (hf : ∀ a ∈ l, ∀ s, P s → ∃ t, f a s = .going t ∧ P t) (hs : P s) : ∃ t, runAll f l s = .going t ∧ P t := by
  induction l generalizing s with
  | nil => exact ⟨s, rfl, hs⟩
  | cons a rest ih =>
    obtain ⟨u, hu, hP⟩ := hf a List.mem_cons_self s hs
    simp only [runAll, hu]
    exact ih (fun b hb => hf b (List.mem_cons_of_mem a hb)) hP

/-- An update with a share of 0 is made and changes nothing. -/
theorem addShare_zero {u : Nat × Int} (hu : u.2 = 0) (s : State) : ∃ t, addShare u s = .going t ∧ SameFrom 0 s t := by
  have hsum : updateSum u s = (readAccumulator s u.1).toInt := by rw [updateSum, hu, Int.add_zero]
  have hrange : InRange (updateSum u s) := by
    rw [hsum]
    exact ⟨BitVec.le_toInt _, Int.le_of_lt_add_one BitVec.toInt_lt⟩
  refine ⟨_, addShare_inRange hrange, writeAccumulator_pixOnly _ _ _, fun i _ => ?_⟩
  rw [readAccumulator_write, hsum, BitVec.ofInt_toInt]
  split
  · rename_i hi
    rw [hi]
  · rfl

theorem errorShare_zero_error (weight d : Nat) : errorShare 0 weight d = 0 := by simp [errorShare, fdiv]

/-- A pixel without error adds shares of 0 only. -/
theorem pixelShares_zero (h : pixelError s p = black) {u : Nat × Int} (hu : u ∈ pixelShares s p) : u.2 = 0 := by
  obtain ⟨cell, _, hcell⟩ := List.mem_flatMap.1 hu
  rw [h] at hcell
  unfold cellShares at hcell
  split at hcell
  · cases hcell
  · simp only [black, errorShare_zero_error, List.mem_cons, List.not_mem_nil, or_false] at hcell
    rcases hcell with rfl | rfl | rfl <;> rfl

/-- The step of a pixel that holds a palette colour goes on and changes nothing. -/
theorem diffusePixel_of_palette (hc : c ∈ palette s.mode) (h : readPixel s p = scaledColour c) :
    ∃ t, diffusePixel p s = .going t ∧ SameFrom 0 s t := by
  have hnearest : nearestColour s.mode 256 (readPixel s p) = c := by
    rw [h]
    exact nearestColour_scaled (by decide) hc
  have herror : pixelError s p = black := by
    unfold pixelError
    dsimp only
    rw [hnearest, h]
    simp [scaledColour, black]
  rw [diffusePixel_eq, quantizedPixel, hnearest]
  refine runAll_going (SameFrom 0 s) (fun a ha u hu => ?_) (writeScaledPixel_same h)
  obtain ⟨t, ht, hsame⟩ := addShare_zero (pixelShares_zero herror ha) u
  exact ⟨t, ht, hu.trans hsame⟩

/-- Error diffusion of an image of palette colours goes to its end and changes nothing. -/
theorem diffusedTo_of_palette (himage : ∀ p < n, ∃ c ∈ palette s.mode, readPixel s p = scaledColour c) :
    ∃ t, diffusedTo s n = .going t ∧ SameFrom 0 s t := by
  rw [diffusedTo_eq_runAll]
  refine runAll_going (SameFrom 0 s) (fun p hp u hu => ?_) (SameFrom.refl 0 s)
  obtain ⟨c, hc, hread⟩ := himage p (List.mem_range.1 hp)
  obtain ⟨t, ht, hsame⟩ := diffusePixel_of_palette (hu.1.mode.symm ▸ hc) ((readPixel_of_same hu p).trans hread)
  exact ⟨t, ht, hu.trans hsame⟩

/-- Settles O27: for each algorithm the pass leaves every accumulator, and QUANT completes. -/
theorem quantIdempotent : Obligations.QuantIdempotent := by
  intro s hframer hop hwait herr halg himage
  have hpass : ∃ u, runQuant s = complete u ∧ SameFrom 0 s u := by
    rcases halg with hplain | hdiffusion | ⟨hordered, hamp⟩
    · refine ⟨_, runQuant_plain hplain, colouredTo_same plainColour_alone fun p hp => ?_⟩
      obtain ⟨c, hc, hread⟩ := himage p hp
      rw [plainColour_of_palette hc hread, hread]
    · obtain ⟨u, hu, hsame⟩ := diffusedTo_of_palette himage
      exact ⟨u, runQuant_going hdiffusion hu, hsame⟩
    · refine ⟨_, runQuant_ordered hordered, colouredTo_same orderedColour_alone fun p hp => ?_⟩
      obtain ⟨c, hc, hread⟩ := himage p hp
      rw [orderedColour_of_palette hamp hc hread, hread]
  obtain ⟨u, hu, honly, hsame⟩ := hpass
  refine ⟨complete u, hu ▸ step_engine_quant hframer hop hwait, ?_, ?_, fun i => ?_⟩
  · rw [honly.complete herr]
  · rw [honly.complete herr]
    exact herr
  · rw [readAccumulator_complete]
    exact hsame i (Nat.zero_le i)

end Sys2Proof.Machine
end

section
/-! PACK (42_bitplane.md R160 to R168): the engine's event, and a bit of a plane byte after the pass. A bit is set by at
most one pixel, since plane, column and row can be read back from its byte and its place there. -/

namespace Sys2Proof.Machine

variable {s t : State} {q : Plane} {p j i n x y : Nat}

/-! ### The engine's event (42_bitplane.md R160, R168) -/

theorem step_engine_pack (hframer : s.framer = none) (hop : s.curOp = .packOp) (hwait : s.wait = .engine) :
    step (deliver .engine s) = .next (runPack s) := by
  have hevent : onEngine s = runPack s := by
    unfold onEngine
    rw [if_pos hwait, hop]
  rw [step_deliver s _ hframer, ← hevent]
  rfl

theorem runPack_eq (herr : s.errcode = .none) :
    runPack s =
      { s with
        planeMem := (packPlanes s).planeMem
        planeLen := BitVec.ofNat 24 (planeBytes s.resW.toNat s.resH.toNat), packedMode := s.mode
        curOp := .none, wait := .idle
        status := { s.status with busy := false, done := true, planesValid := true } } := by
  unfold runPack
  rw [show packPlanes s = _ from packPlanes_planesOnly s]
  exact complete_of_noError herr

theorem readPlaneByte_runPack (herr : s.errcode = .none) (j : Nat) :
    readPlaneByte (runPack s) j = readPlaneByte (packPlanes s) j := by
  rw [runPack_eq herr, show packPlanes s = _ from packPlanes_planesOnly s]
  rfl

/-! ### The place of a pixel's bit (42_bitplane.md R161) -/

/-- The byte of plane memory that holds the bit of pixel `(x, y)` in plane `q`. -/
def planeByteIn (s : State) (q : Plane) (x y : Nat) : Nat :=
  planeIndex q * planeBytes s.resW.toNat s.resH.toNat + planeByteOf s.resW.toNat x y

theorem planeByteOf_lt_planeBytes {w h : Nat} (hx : x < 8 * ceilDiv w 8) (hy : y < h) :
    planeByteOf w x y < planeBytes w h :=
  rowMajor_lt (Nat.div_lt_of_lt_mul hx) hy

theorem lt_eight_mul_ceilDiv {w : Nat} (hx : x < w) : x < 8 * ceilDiv w 8 := by
  unfold ceilDiv
  omega

theorem planeIndex_inj {q' : Plane} (h : planeIndex q = planeIndex q') : q = q' := by
  cases q <;> cases q' <;> trivial

/-- No two positions of the planes, padding included, share a bit. -/
theorem planeByteIn_inj {q' : Plane} {x' y' : Nat} (hx : x < 8 * ceilDiv s.resW.toNat 8)
    (hx' : x' < 8 * ceilDiv s.resW.toNat 8) (hy : y < s.resH.toNat) (hy' : y' < s.resH.toNat)
    (hbyte : planeByteIn s q x y = planeByteIn s q' x' y') (hbit : 7 - x % 8 = 7 - x' % 8) :
    q = q' ∧ x = x' ∧ y = y' := by
  obtain ⟨hoffset, hplane⟩ :=
    rowMajor_inj (planeByteOf_lt_planeBytes hx hy) (planeByteOf_lt_planeBytes hx' hy') hbyte
  obtain ⟨hcolumn, hrow⟩ := rowMajor_inj (Nat.div_lt_of_lt_mul hx) (Nat.div_lt_of_lt_mul hx') hoffset
  exact ⟨planeIndex_inj hplane, by omega, hrow⟩

theorem planeByteIn_lt {m : Mode} (hq : planeIndex q < planeCount m) (hx : x < 8 * ceilDiv s.resW.toNat 8)
    (hy : y < s.resH.toNat) : planeByteIn s q x y < planeCount m * planeBytes s.resW.toNat s.resH.toNat :=
  (rowMajor_lt (planeByteOf_lt_planeBytes hx hy) hq).trans_eq (Nat.mul_comm _ _)

/-! ### The bits of a pixel (42_bitplane.md R164 to R166) -/

/-- The bit of pixel `p` in plane `q`. -/
def planeBitOf (s : State) (q : Plane) (p : Nat) : Bool :=
  match q with
  | .b => (pixelBits s.mode (viewPixel s p)).1
  | .r => (pixelBits s.mode (viewPixel s p)).2

theorem planeBitOf_b_mono (hmode : s.mode = .mono) (p : Nat) :
    planeBitOf s .b p = decide (128 < (viewPixel s p).r) := by
  rw [planeBitOf, hmode]
  rfl

theorem classBits_classify (v : Rgb) :
    classBits (classify v) =
      (!decide (v.r < 128 ∧ v.g < 128 ∧ v.b < 128),
        decide (v.r < 128 ∧ v.g < 128 ∧ v.b < 128) || decide (128 < v.r ∧ 128 < v.g ∧ 128 < v.b)) := by
  unfold classify
  split_ifs with hbelow habove
  · rw [decide_eq_true hbelow]
    rfl
  · rw [decide_eq_false hbelow, decide_eq_true habove]
    rfl
  · rw [decide_eq_false hbelow, decide_eq_false habove]
    rfl

theorem planeBitOf_b_tri (hmode : s.mode = .tri) (p : Nat) :
    planeBitOf s .b p = !decide ((viewPixel s p).r < 128 ∧ (viewPixel s p).g < 128 ∧ (viewPixel s p).b < 128) := by
  rw [planeBitOf, hmode]
  exact congrArg Prod.fst (classBits_classify _)

theorem planeBitOf_r_tri (hmode : s.mode = .tri) (p : Nat) :
    planeBitOf s .r p =
      (decide ((viewPixel s p).r < 128 ∧ (viewPixel s p).g < 128 ∧ (viewPixel s p).b < 128) ||
        decide (128 < (viewPixel s p).r ∧ 128 < (viewPixel s p).g ∧ 128 < (viewPixel s p).b)) := by
  rw [planeBitOf, hmode]
  exact congrArg Prod.snd (classBits_classify _)

/-- A pixel sets bits only in the planes its mode packs (42_bitplane.md R160). -/
theorem planeIndex_lt_of_planeBitOf (h : planeBitOf s q p = true) : planeIndex q < planeCount s.mode := by
  unfold planeBitOf at h
  cases hmode : s.mode with
  | tri => cases q <;> decide
  | mono =>
    cases q with
    | b => decide
    | r => simp [hmode, pixelBits] at h

/-! ### The pass (42_bitplane.md R160, R163) -/

/-- Pixel `p` sets bit `i` of plane byte `j`. -/
def SetsBit (s : State) (p j i : Nat) : Prop :=
  ∃ q, planeBitOf s q p = true ∧ j = planeByteIn s q (pixelX s.resW.toNat p) (pixelY s.resW.toNat p) ∧
    i = 7 - pixelX s.resW.toNat p % 8

/-- What a pixel sets does not depend on plane memory. -/
theorem PlanesOnly.setsBit_iff (h : PlanesOnly s t) : SetsBit t p j i ↔ SetsBit s p j i := by
  rw [show t = _ from h]
  exact Iff.rfl

theorem getLsbD_bitMask {k : Nat} (hk : k < 8) : (1#8 <<< k).getLsbD i = true ↔ i = k := by
  rw [← BitVec.twoPow_eq, BitVec.getLsbD_twoPow]
  simp [hk, eq_comm]

theorem getLsbD_setPlaneBit (s : State) (j x : Nat) (bit : Bool) (j' i : Nat) :
    (readPlaneByte (setPlaneBit s j x bit) j').getLsbD i = true ↔
      (readPlaneByte s j').getLsbD i = true ∨ bit = true ∧ j' = j ∧ i = 7 - x % 8 := by
  cases bit with
  | false => simp [setPlaneBit]
  | true =>
    rw [setPlaneBit, if_pos rfl, readPlaneByte_write]
    split_ifs with hj
    · rw [BitVec.getLsbD_or, Bool.or_eq_true, getLsbD_bitMask (show 7 - x % 8 < 8 by omega)]
      simp [hj]
    · simp [hj]

theorem exists_plane_iff {P : Plane → Prop} : (∃ q, P q) ↔ P .b ∨ P .r := by
  constructor
  · rintro ⟨_ | _, h⟩
    · exact .inl h
    · exact .inr h
  · rintro (h | h) <;> exact ⟨_, h⟩

/-- The step of one pixel sets that pixel's bits and clears none. -/
theorem getLsbD_packPixel (s : State) (p j i : Nat) :
    (readPlaneByte (packPixel s p) j).getLsbD i = true ↔
      (readPlaneByte s j).getLsbD i = true ∨ SetsBit s p j i := by
  rw [packPixel, getLsbD_setPlaneBit, getLsbD_setPlaneBit, SetsBit, exists_plane_iff, or_assoc]
  simp only [planeByteIn, planeIndex, Nat.zero_mul, Nat.one_mul, Nat.zero_add]
  rfl

/-- The pass over pixels 0 to `n - 1`, once the planes are zeroed. -/
def packedTo (s : State) (n : Nat) : State := (List.range n).foldl packPixel s

theorem packedTo_succ (s : State) (n : Nat) : packedTo s (n + 1) = packPixel (packedTo s n) n := by
  simp [packedTo, List.range_succ]

theorem packedTo_planesOnly (s : State) (n : Nat) : PlanesOnly s (packedTo s n) :=
  foldl_keeps (PlanesOnly s) packPixel _ (fun p _ t ht => ht.trans (packPixel_planesOnly t p)) s (PlanesOnly.refl s)

theorem getLsbD_packedTo (s : State) (n j i : Nat) :
    (readPlaneByte (packedTo s n) j).getLsbD i = true ↔
      (readPlaneByte s j).getLsbD i = true ∨ ∃ p < n, SetsBit s p j i := by
  induction n with
  | zero => simp [packedTo]
  | succ n ih =>
    rw [packedTo_succ, getLsbD_packPixel, ih, (packedTo_planesOnly s n).setsBit_iff, Nat.exists_lt_succ_right, or_assoc]

/-- The zeroing of plane bytes 0 to `n - 1`. -/
def zeroedTo (s : State) (n : Nat) : State := (List.range n).foldl zeroPlaneByte s

theorem zeroedTo_succ (s : State) (n : Nat) : zeroedTo s (n + 1) = zeroPlaneByte (zeroedTo s n) n := by
  simp [zeroedTo, List.range_succ]

theorem zeroedTo_planesOnly (s : State) (n : Nat) : PlanesOnly s (zeroedTo s n) :=
  foldl_keeps (PlanesOnly s) zeroPlaneByte _ (fun j _ t ht => ht.trans (zeroPlaneByte_planesOnly t j)) s
    (PlanesOnly.refl s)

theorem readPlaneByte_zeroedTo (s : State) (n j : Nat) :
    readPlaneByte (zeroedTo s n) j = if j < n then 0#8 else readPlaneByte s j := by
  induction n with
  | zero => rfl
  | succ n ih =>
    rw [zeroedTo_succ, zeroPlaneByte, readPlaneByte_write, ih]
    by_cases hlast : j = n
    · rw [if_pos hlast, if_pos (by omega)]
    · simp only [if_neg hlast, Nat.lt_succ_iff_lt_or_eq, or_iff_left hlast]

theorem packPlanes_eq (s : State) :
    packPlanes s =
      packedTo (zeroedTo s (planeCount s.mode * planeBytes s.resW.toNat s.resH.toNat)) (pixelCount s) := rfl

/-- A bit after the pass: what the zeroing left of it, or set by a pixel. -/
theorem getLsbD_packPlanes (s : State) (j i : Nat) :
    (readPlaneByte (packPlanes s) j).getLsbD i = true ↔
      (planeCount s.mode * planeBytes s.resW.toNat s.resH.toNat ≤ j ∧ (readPlaneByte s j).getLsbD i = true) ∨
      ∃ p < pixelCount s, SetsBit s p j i := by
  rw [packPlanes_eq, getLsbD_packedTo, readPlaneByte_zeroedTo]
  simp only [(zeroedTo_planesOnly s _).setsBit_iff]
  split_ifs with hj
  · simp [Nat.not_le.2 hj]
  · simp [Nat.not_lt.1 hj]

/-! ### The planes after the pass (42_bitplane.md R161 to R163) -/

/-- Pixel `(x', y')` sets the bit of position `(x, y)` in plane `q` just when it stands there. -/
theorem setsBit_rowMajor_iff {x' y' : Nat} (hx : x < 8 * ceilDiv s.resW.toNat 8) (hy : y < s.resH.toNat)
    (hx' : x' < s.resW.toNat) (hy' : y' < s.resH.toNat) :
    SetsBit s (y' * s.resW.toNat + x') (planeByteIn s q x y) (7 - x % 8) ↔
      x = x' ∧ y = y' ∧ planeBitOf s q (y' * s.resW.toNat + x') = true := by
  rw [SetsBit, pixelX_rowMajor hx', pixelY_rowMajor hx']
  constructor
  · rintro ⟨q', hbit, hbyte, hplace⟩
    obtain ⟨rfl, rfl, rfl⟩ := planeByteIn_inj hx (lt_eight_mul_ceilDiv hx') hy hy' hbyte hplace
    exact ⟨rfl, rfl, hbit⟩
  · rintro ⟨rfl, rfl, hbit⟩
    exact ⟨q, hbit, rfl, rfl⟩

/-- Each position of a packed plane holds the bit of its pixel; a padding position, which has none, holds 0. -/
theorem getLsbD_packPlanes_position (hq : planeIndex q < planeCount s.mode) (hx : x < 8 * ceilDiv s.resW.toNat 8)
    (hy : y < s.resH.toNat) :
    (readPlaneByte (packPlanes s) (planeByteIn s q x y)).getLsbD (7 - x % 8) =
      (decide (x < s.resW.toNat) && planeBitOf s q (y * s.resW.toNat + x)) := by
  rw [Bool.eq_iff_iff, getLsbD_packPlanes, Bool.and_eq_true, decide_eq_true_eq]
  constructor
  · rintro (⟨hbeyond, _⟩ | ⟨p, hp, hsets⟩)
    · exact absurd (planeByteIn_lt hq hx hy) (Nat.not_lt.2 hbeyond)
    · obtain ⟨x', hx', y', hy', rfl⟩ := exists_rowMajor hp
      obtain ⟨rfl, rfl, hbit⟩ := (setsBit_rowMajor_iff hx hy hx' hy').1 hsets
      exact ⟨hx', hbit⟩
  · rintro ⟨hin, hbit⟩
    exact .inr ⟨_, rowMajor_lt hin hy, (setsBit_rowMajor_iff hx hy hin hy).2 ⟨rfl, rfl, hbit⟩⟩

theorem readPlaneByte_packPlanes_beyond (hj : planeCount s.mode * planeBytes s.resW.toNat s.resH.toNat ≤ j) :
    readPlaneByte (packPlanes s) j = readPlaneByte s j := by
  have hnone : ∀ i, ¬∃ p < pixelCount s, SetsBit s p j i := by
    rintro i ⟨p, hp, q, hbit, rfl, _⟩
    obtain ⟨x, hx, y, hy, rfl⟩ := exists_rowMajor hp
    rw [pixelX_rowMajor hx, pixelY_rowMajor hx] at hj
    exact absurd (planeByteIn_lt (planeIndex_lt_of_planeBitOf hbit) (lt_eight_mul_ceilDiv hx) hy) (Nat.not_lt.2 hj)
  refine BitVec.eq_of_getLsbD_eq fun i _ => ?_
  rw [Bool.eq_iff_iff, getLsbD_packPlanes]
  simp [hj, hnone i]

/-! ### PACK (42_bitplane.md R160 to R168) -/

/-- Plane B starts at byte 0. -/
theorem planeByteIn_b (s : State) (x y : Nat) :
    planeByteIn s .b x y = y * ((s.resW.toNat + 7) / 8) + x / 8 := by
  simp [planeByteIn, planeIndex, planeByteOf, ceilDiv]

/-- Plane R follows plane B. -/
theorem planeByteIn_r (s : State) (x y : Nat) :
    planeByteIn s .r x y =
      (s.resW.toNat + 7) / 8 * s.resH.toNat + y * ((s.resW.toNat + 7) / 8) + x / 8 := by
  simp [planeByteIn, planeIndex, planeByteOf, planeBytes, ceilDiv, Nat.add_assoc]

/-- A pixel's bit after PACK. -/
theorem getLsbD_runPack_pixel (herr : s.errcode = .none) (hq : planeIndex q < planeCount s.mode)
    (hx : x < s.resW.toNat) (hy : y < s.resH.toNat) :
    (readPlaneByte (runPack s) (planeByteIn s q x y)).getLsbD (7 - x % 8) = planeBitOf s q (y * s.resW.toNat + x) := by
  rw [readPlaneByte_runPack herr, getLsbD_packPlanes_position hq (lt_eight_mul_ceilDiv hx) hy, decide_eq_true hx,
    Bool.true_and]

/-- A padding bit after PACK. -/
theorem getLsbD_runPack_padding (herr : s.errcode = .none) (hq : planeIndex q < planeCount s.mode)
    (hpad : s.resW.toNat ≤ x) (hx : x < 8 * ceilDiv s.resW.toNat 8) (hy : y < s.resH.toNat) :
    (readPlaneByte (runPack s) (planeByteIn s q x y)).getLsbD (7 - x % 8) = false := by
  rw [readPlaneByte_runPack herr, getLsbD_packPlanes_position hq hx hy, decide_eq_false (Nat.not_lt.2 hpad),
    Bool.false_and]

/-- Settles O28: a position of either plane, inside the image or in its padding, holds what the pass left there. -/
theorem packResult : Obligations.PackResult := by
  intro s hframer hop hwait herr
  have hb : planeIndex .b < planeCount s.mode := by cases s.mode <;> decide
  have hr : s.mode = .tri → planeIndex .r < planeCount s.mode := fun hmode => by rw [hmode]; decide
  refine ⟨runPack s, step_engine_pack hframer hop hwait, ?_, fun x hx y hy => ⟨?_, fun hmode => ?_⟩,
    fun x hpad hx y hy => ⟨?_, fun hmode => ?_⟩, fun j hj => ?_⟩
  · rw [runPack_eq herr]
    rfl
  · rw [← planeByteIn_b, getLsbD_runPack_pixel herr hb hx hy]
    cases hmode : s.mode with
    | mono => exact planeBitOf_b_mono hmode _
    | tri => exact planeBitOf_b_tri hmode _
  · rw [← planeByteIn_r, getLsbD_runPack_pixel herr (hr hmode) hx hy]
    exact planeBitOf_r_tri hmode _
  · rw [← planeByteIn_b, getLsbD_runPack_padding herr hb hpad hx hy]
  · rw [← planeByteIn_r, getLsbD_runPack_padding herr (hr hmode) hpad hx hy]
  · rw [readPlaneByte_runPack herr, readPlaneByte_packPlanes_beyond hj]

end Sys2Proof.Machine
end

section
/-! OPEN and the end of negotiation (43_session.md R170 to R173, R181 to R187): what each response does, and the
resolution that the session gets. -/

namespace Sys2Proof.Machine

variable {s : State}

/-! ### Responses and ticks -/

theorem step_linkRsp (hframer : s.framer = none) (ok : Bool) (maxpl : Nat) :
    step (deliver (.linkRsp ok maxpl) s) = .next (onLinkRsp ok maxpl s) := step_deliver s _ hframer

theorem step_tick (hframer : s.framer = none) : step (deliver .tick s) = .next (onTick s) := step_deliver s _ hframer

/-! ### OPEN: connect and subscribe (43_session.md R170 to R172) -/

theorem acceptOpen_accepted (h : s.seqState = .disconnected) :
    acceptOpen s = waitAt .connect (emit .connect { accept .openOp (clearSession s) with seqState := .connecting }) :=
  if_pos h

/-- Settles O10: OPEN is presented to an idle unit, and its acceptance only clears, sets and emits. -/
theorem openAccepted : Obligations.OpenAccepted := by
  intro s hb hdis
  have hstate := (present_idle acceptOpen s hb).trans (acceptOpen_accepted (s := cleared s) hdis)
  exact congrArg Host.Outcome.next hstate

/-- Settles O30. -/
theorem openResponses : Obligations.OpenResponses := by
  intro s maxpl hframer
  refine ⟨fun hw => ?_, fun hw => ?_⟩
  · have hrsp : ∀ ok, onLinkRsp ok maxpl s = onConnectRsp ok maxpl s := fun ok => by simp only [onLinkRsp, hw]
    rw [step_linkRsp hframer, step_linkRsp hframer, hrsp, hrsp]
    exact ⟨rfl, rfl⟩
  · have hrsp : ∀ ok, onLinkRsp ok maxpl s = onSubscribeRsp ok s := fun ok => by simp only [onLinkRsp, hw]
    rw [step_linkRsp hframer, step_linkRsp hframer, hrsp, hrsp]
    exact ⟨rfl, rfl⟩

/-! ### The negotiation timer (43_session.md R173, R182 to R184) -/

theorem bothSignals_iff : bothSignals s = true ↔ s.status.cfgRcvd = true ∧ s.status.mtuRcvd = true := by
  simp [bothSignals]

theorem bothSignals_eq_false_iff :
    bothSignals s = false ↔ s.status.cfgRcvd = false ∨ s.status.mtuRcvd = false := by
  unfold bothSignals
  exact Bool.and_eq_false_iff

/-- A success with both signals present ends the negotiation at once. -/
theorem onInitAck_both (h : bothSignals s = true) : onInitAck true s = resolve s := by
  rw [onInitAck, if_neg (by simp), if_pos h]

/-- A success with a signal missing starts the timer. -/
theorem onInitAck_timer (h : bothSignals s = false) :
    onInitAck true s = startTimer s.tNeg .negotiate negotiationTimeout s := by
  rw [onInitAck, if_neg (by simp), if_neg (by simp [h])]

/-- Settles O31: a delay of 0 and the last tick both end in the timeout, with the timer at 0. -/
theorem negotiationTimer : Obligations.NegotiationTimer := by
  intro s maxpl hframer timedOut
  have htimeout : ∀ v, v = 0 → negotiationTimeout { s with timer := v } = resolve timedOut := by
    rintro _ rfl
    rfl
  refine ⟨fun hw => ?_, fun hw _ => ?_⟩
  · have hrsp : ∀ ok, onLinkRsp ok maxpl s = onInitAck ok s := fun ok => by simp only [onLinkRsp, hw]
    rw [step_linkRsp hframer, step_linkRsp hframer, hrsp, hrsp]
    refine ⟨rfl, fun hcfg hmtu => ?_, fun hmissing => ?_⟩
    · rw [onInitAck_both (bothSignals_iff.2 ⟨hcfg, hmtu⟩)]
    · rw [onInitAck_timer (bothSignals_eq_false_iff.2 hmissing)]
      rcases startTimer_cases s.tNeg .negotiate negotiationTimeout s with ⟨hzero, heq⟩ | ⟨hne, heq⟩
      · rw [heq, if_pos hzero, htimeout _ hzero]
      · rw [heq, if_neg hne]
  · have htick : onTick s = countTick negotiationTimeout s := by simp only [onTick, hw]
    rw [step_tick hframer, htick]
    rcases countTick_cases negotiationTimeout s with ⟨hlast, heq⟩ | ⟨hmore, heq⟩
    · rw [heq, if_pos (sub_eq_zero.1 hlast), htimeout _ hlast]
    · rw [heq, if_neg fun hone => hmore (sub_eq_zero.2 hone)]

/-! ### The resolution policy (43_session.md R185, R186) -/

theorem chosenResolution_explicit (h : s.expW ≠ 0 ∧ s.expH ≠ 0) : chosenResolution s = some (s.expW, s.expH) :=
  if_pos h

theorem chosenResolution_device (h : ¬(s.expW ≠ 0 ∧ s.expH ≠ 0)) (hdev : s.status.devResValid = true) :
    chosenResolution s = some (s.devW, s.devH) := by
  rw [chosenResolution, if_neg h, if_pos hdev]

theorem chosenResolution_none (h : ¬(s.expW ≠ 0 ∧ s.expH ≠ 0)) (hdev : s.status.devResValid = false) :
    chosenResolution s = none := by
  rw [chosenResolution, if_neg h, if_neg (by simp [hdev])]

theorem fits_iff {w h : Nat} :
    fits s w h = true ↔ w * h ≤ s.cfg.pixCap ∧ 2 * ((w + 7) / 8 * h) ≤ s.cfg.planeCap := by
  unfold fits
  rw [Bool.and_eq_true, decide_eq_true_iff, decide_eq_true_iff]
  rfl

/-- The state in which OPEN completes with a resolution. -/
def resolvedWith (w h : Half) (s : State) : State :=
  { s with resW := w, resH := h, status := { s.status with resValid := true }, seqState := .ready }

theorem resolve_none (hc : chosenResolution s = none) : resolve s = raiseError .cfgResolution s := by
  rw [resolve, hc]

theorem resolve_fits {w h : Half} (hc : chosenResolution s = some (w, h)) (hfits : fits s w.toNat h.toNat = true) :
    resolve s = complete (resolvedWith w h s) := by
  rw [resolve, hc]
  exact if_pos hfits

theorem resolve_capacity {w h : Half} (hc : chosenResolution s = some (w, h))
    (hfits : ¬fits s w.toNat h.toNat = true) : resolve s = raiseError .cfgCapacity s := by
  rw [resolve, hc]
  exact if_neg hfits

/-- The end of negotiation raises a session error, or completes OPEN in READY. -/
theorem resolve_cases (s : State) :
    (∃ code, errClass code = .sessionError ∧ resolve s = raiseError code s) ∨
    ∃ w h, resolve s = complete (resolvedWith w h s) := by
  cases hc : chosenResolution s with
  | none => exact .inl ⟨_, rfl, resolve_none hc⟩
  | some res =>
    by_cases hfits : fits s res.1.toNat res.2.toNat = true
    · exact .inr ⟨_, _, resolve_fits hc hfits⟩
    · exact .inl ⟨_, rfl, resolve_capacity hc hfits⟩

/-- Settles O32. -/
theorem resolutionPolicy : Obligations.ResolutionPolicy := by
  intro s herr explicit fit ready
  have hready : ∀ w h, complete (resolvedWith w h s) = ready w h := fun w h =>
    complete_of_noError (s := resolvedWith w h s) herr
  refine ⟨fun he hfit => ?_, fun he hfit => ?_, fun he hdev hfit => ?_, fun he hdev hfit => ?_, fun he hdev => ?_⟩
  · rw [resolve_fits (chosenResolution_explicit he) (fits_iff.2 hfit), hready]
  · exact resolve_capacity (chosenResolution_explicit he) fun h => hfit (fits_iff.1 h)
  · rw [resolve_fits (chosenResolution_device he hdev) (fits_iff.2 hfit), hready]
  · exact resolve_capacity (chosenResolution_device he hdev) fun h => hfit (fits_iff.1 h)
  · exact resolve_none (chosenResolution_none he hdev)

end Sys2Proof.Machine
end

section
/-! The notification receiver (43_session.md R175 to R181): the config record, the MTU latch and the counters. -/

namespace Sys2Proof.Machine

variable {s : State} {bytes : List Byte}

theorem step_notify (hframer : s.framer = none) (bytes : List Byte) :
    step (deliver (.notify bytes) s) = .next (onNotify bytes s) := step_deliver s _ hframer

/-- A counter adds 1 up to 255 and stays there (00_scope.md R12). -/
theorem sat8Inc_eq (c : Byte) : sat8Inc c = BitVec.ofNat 8 (min (c.toNat + 1) 255) := by
  have hc := c.isLt
  apply BitVec.eq_of_toNat_eq
  unfold sat8Inc
  split
  · rw [BitVec.toNat_add, BitVec.toNat_ofNat, min_eq_left (by omega)]
    rfl
  · rw [BitVec.toNat_ofNat]
    omega

/-! ### The end of a notification (43_session.md R181) -/

/-- A notification that leaves the negotiation without an MTU is only recorded, and so is one outside its wait point. -/
theorem onNotify_recorded (hsub : s.status.subscribed = true)
    (h : s.wait = .negotiate → (recordNotification bytes s).status.mtuRcvd = false) :
    onNotify bytes s = recordNotification bytes s := by
  rw [onNotify, if_neg (by simp [hsub]), if_neg fun ⟨hw, hboth⟩ => by simp [bothSignals, h hw] at hboth]

/-- A notification that leaves both signals present ends the negotiation at its wait point. -/
theorem onNotify_both (hsub : s.status.subscribed = true) (h : bothSignals (recordNotification bytes s) = true) :
    onNotify bytes s =
      if s.wait = .negotiate then resolve (recordNotification bytes s) else recordNotification bytes s := by
  rw [onNotify, if_neg (by simp [hsub])]
  simp only [h, and_true]

/-! ### The config record (43_session.md R177, R178) -/

theorem modelLookup_some {w h : Half} (hl : lookupModel s.cfg.modelRes (modelId s) = some (w, h)) :
    modelLookup s = { s with devW := w, devH := h, status := { s.status with devResValid := true } } := by
  rw [modelLookup, hl]

theorem modelLookup_none (hl : lookupModel s.cfg.modelRes (modelId s) = none) : modelLookup s = s := by
  rw [modelLookup, hl]

theorem configRecord_none (h : bytes.length < 12) : configRecord bytes = none := by
  unfold configRecord
  split
  · exact absurd h (by simp)
  · rfl

/-- Twelve bytes are recorded byte by byte, byte 7 as the model identifier (10_state.md R38). -/
theorem configRecord_some (h : 12 ≤ bytes.length) :
    ∃ ws, configRecord bytes = some ws ∧
      (∀ i < 12, some (byteOf (ws.toList.getD (i / 4) 0) (i % 4)) = bytes[i]?) ∧
      bytes[7]? = some (byteOf ws[1] 3) := by
  unfold configRecord
  split
  · refine ⟨_, rfl, fun i hi => ?_, ?_⟩
    · interval_cases i <;>
        simp [byteOf_wordOf_zero, byteOf_wordOf_one, byteOf_wordOf_two, byteOf_wordOf_three]
    · simp [byteOf_wordOf_three]
  · rename_i hno
    exact (hno bytes[0] bytes[1] bytes[2] bytes[3] bytes[4] bytes[5] bytes[6] bytes[7] bytes[8] bytes[9] bytes[10]
      bytes[11] (bytes.drop 12) (by simp only [List.getElem_cons_drop, List.drop_zero])).elim

/-- The state that a notification is recorded in: it is counted. -/
def notified (s : State) : State := { s with notifCnt := sat8Inc s.notifCnt }

/-- The state that the model identifier is looked up in. -/
def configured (ws : Vector Word 3) (s : State) : State :=
  { notified s with epdcfg := ws, status := { s.status with cfgRcvd := true, cfgValid := true } }

theorem recordNotification_config {ws : Vector Word 3} (hcfg : s.status.cfgRcvd = false)
    (h : configRecord bytes = some ws) : recordNotification bytes s = modelLookup (configured ws s) := by
  rw [recordNotification, if_neg (by simp [hcfg]), configNotification, h]
  rfl

theorem recordNotification_short (hcfg : s.status.cfgRcvd = false) (h : configRecord bytes = none) :
    recordNotification bytes s =
      { notified s with malfCnt := sat8Inc s.malfCnt, status := { s.status with cfgRcvd := true } } := by
  rw [recordNotification, if_neg (by simp [hcfg]), configNotification, h]
  rfl

theorem modelLookup_mtuRcvd (s : State) : (modelLookup s).status.mtuRcvd = s.status.mtuRcvd := by
  unfold modelLookup
  split <;> rfl

/-! ### Later notifications (43_session.md R176, R179, R180) -/

theorem recordNotification_later (hcfg : s.status.cfgRcvd = true) (bytes : List Byte) :
    recordNotification bytes s = laterNotification bytes (notified s) := if_pos hcfg

theorem laterNotification_malformed (h : utf8Ok bytes = false) (s : State) :
    laterNotification bytes s = { s with malfCnt := sat8Inc s.malfCnt } := if_pos h

theorem laterNotification_latched {n : Half} (h : mtuMatch bytes = some n)
    (hs : s.seqState = .negotiating ∧ s.status.mtuRcvd = false) : laterNotification bytes s = latchMtu n s := by
  rw [laterNotification, if_neg (by simp [utf8Ok_of_mtuMatch h]), h]
  exact if_pos hs

theorem laterNotification_ignored (hutf : utf8Ok bytes = true)
    (h : mtuMatch bytes = none ∨ s.seqState ≠ .negotiating ∨ s.status.mtuRcvd = true) :
    laterNotification bytes s = { s with ignCnt := sat8Inc s.ignCnt } := by
  rw [laterNotification, if_neg (by simp [hutf])]
  cases hm : mtuMatch bytes with
  | none => rfl
  | some n =>
    refine if_neg fun ⟨hneg, hmtu⟩ => ?_
    rcases h with hnone | hother | hrcvd
    · simp [hm] at hnone
    · exact hother hneg
    · simp [hmtu] at hrcvd

/-! ### The statements -/

namespace Receiver

/-- Settles O33: without an MTU the config notification is only recorded; the identifier's entry decides the rest. -/
theorem configNotification : Obligations.ConfigNotification := by
  intro s bytes hframer hsub hcfg hmtu count
  have hcount : ∀ c, sat8Inc c = count c := sat8Inc_eq
  rw [step_notify hframer]
  refine ⟨fun hlen => ?_, fun hlen => ?_⟩
  · obtain ⟨ws, hrec, hbytes, hid⟩ := configRecord_some hlen
    have hstate := recordNotification_config hcfg hrec
    rw [onNotify_recorded hsub fun _ => by rw [hstate, modelLookup_mtuRcvd]; exact hmtu, hstate]
    refine ⟨_, rfl, ?_⟩
    have hmodel : ∀ m, bytes[7]? = some m → m = modelId (configured ws s) := fun m hm =>
      Option.some.inj (hm.symm.trans hid)
    cases hl : lookupModel s.cfg.modelRes (modelId (configured ws s)) with
    | none =>
      rw [modelLookup_none hl]
      exact ⟨hbytes, fun m hm => by rw [hmodel m hm, hl]; exact ⟨rfl, rfl, rfl⟩, by rw [← hcount]; rfl⟩
    | some res =>
      rw [modelLookup_some hl]
      exact ⟨hbytes, fun m hm => by rw [hmodel m hm, hl]; exact ⟨rfl, rfl, rfl⟩, by rw [← hcount]; rfl⟩
  · have hstate := recordNotification_short hcfg (configRecord_none hlen)
    rw [onNotify_recorded hsub fun _ => by rw [hstate]; exact hmtu, hstate, ← hcount, ← hcount]
    rfl

/-- Settles O34: the latch leaves both signals present. -/
theorem mtuNotification : Obligations.MtuNotification := by
  intro s bytes n hframer hsub hcfg hmtu hneg hmatch count latched
  have hstate : recordNotification bytes s = latched := by
    rw [recordNotification_later hcfg, laterNotification_latched (s := notified s) hmatch ⟨hneg, hmtu⟩]
    simp only [latched, count, ← sat8Inc_eq]
    rfl
  have hsignals : bothSignals (recordNotification bytes s) = true := by
    rw [hstate]
    exact bothSignals_iff.2 ⟨hcfg, rfl⟩
  rw [step_notify hframer, onNotify_both hsub hsignals, hstate]

/-- Settles O35: a notification that is only counted leaves the MTU signal as it is. -/
theorem laterNotification : Obligations.LaterNotification := by
  intro s bytes hframer hsub hcfg hwait count
  have hcount : ∀ c, sat8Inc c = count c := sat8Inc_eq
  have hrecorded : ∀ t, recordNotification bytes s = t → t.status.mtuRcvd = s.status.mtuRcvd →
      step (deliver (.notify bytes) s) = .next t := by
    rintro t rfl hkept
    rw [step_notify hframer, onNotify_recorded hsub fun hw => hkept.trans (hwait hw)]
  refine ⟨fun hutf => hrecorded _ ?_ rfl, fun hutf hother => hrecorded _ ?_ rfl⟩
  · rw [recordNotification_later hcfg, laterNotification_malformed hutf, ← hcount, ← hcount]
    rfl
  · rw [recordNotification_later hcfg, laterNotification_ignored (s := notified s) hutf hother, ← hcount, ← hcount]
    rfl

end Receiver

end Sys2Proof.Machine
end

section
/-! CLOSE and teardown (43_session.md R188 to R191): teardown runs to its end and records at most one more error. -/

namespace Sys2Proof.Machine

variable {s : State}

theorem acceptClose_accepted (h : s.seqState = .ready) : acceptClose s = startTeardown (accept .closeOp s) := if_pos h

/-- Settles O16. -/
theorem closeStartsTeardown : Obligations.CloseStartsTeardown := by
  intro s hb hready
  have hstate := (present_idle acceptClose s hb).trans (acceptClose_accepted (s := cleared s) hready)
  exact congrArg Host.Outcome.next hstate

/-- The error code after a teardown response (43_session.md R191). -/
def teardownCode (ok : Bool) (s : State) : ErrCode :=
  if ok = false ∧ s.errcode = .none then .linkTeardown else s.errcode

theorem noteTeardownRsp_eq (ok : Bool) (s : State) :
    noteTeardownRsp ok s = { s with errcode := teardownCode ok s } := by
  cases ok with
  | true => simp [noteTeardownRsp, teardownCode]
  | false =>
    rw [noteTeardownRsp, if_neg (by simp), raiseError_linkTeardown, recordError, teardownCode]
    by_cases herr : s.errcode = .none <;> simp [herr]

/-- The end of teardown: the command completes with the first error, if there is one. -/
theorem onDisconnectRsp_eq (ok : Bool) (s : State) :
    onDisconnectRsp ok s =
      { s with
        errcode := teardownCode ok s, seqState := .disconnected, curOp := .none, wait := .idle
        status :=
          { s.status with
            resValid := false, planesValid := false, busy := false
            done := if teardownCode ok s = .none then true else s.status.done
            err := if teardownCode ok s = .none then s.status.err else true } } := by
  rw [onDisconnectRsp, noteTeardownRsp_eq]
  by_cases hcode : teardownCode ok s = .none
  · rw [complete_of_noError hcode, if_pos hcode, if_pos hcode]
  · rw [complete_of_error hcode, if_neg hcode, if_neg hcode]

/-- Settles O38. -/
theorem teardownResponses : Obligations.TeardownResponses := by
  intro s ok maxpl hframer code
  refine ⟨fun hw => ?_, fun hw => ?_⟩
  · have hrsp : onLinkRsp ok maxpl s = onUnsubscribeRsp ok s := by simp only [onLinkRsp, hw]
    rw [step_linkRsp hframer, hrsp, onUnsubscribeRsp, noteTeardownRsp_eq]
    rfl
  · have hrsp : onLinkRsp ok maxpl s = onDisconnectRsp ok s := by simp only [onLinkRsp, hw]
    rw [step_linkRsp hframer, hrsp, onDisconnectRsp_eq]
    rfl

end Sys2Proof.Machine
end

section
/-! The transfer unit and the resolution over a session (43_session.md R177, R179, R187): only OPEN's acceptance, the
end of negotiation and the MTU latch set them. -/

namespace Sys2Proof.Machine

variable {full : Prop} {s t : State}

/-- What negotiation settles for the rest of the session: the transfer unit and the resolution. -/
def sessionParams (s : State) : Half × Half × Half := (s.tu, s.resW, s.resH)

theorem sessionParams_eq_iff :
    sessionParams t = sessionParams s ↔ t.tu = s.tu ∧ t.resW = s.resW ∧ t.resH = s.resH := by
  simp [sessionParams]

/-! ### The shared operations -/

theorem sessionParams_complete (s : State) : sessionParams (complete s) = sessionParams s := by simp [sessionParams]

theorem sessionParams_raiseError (code : ErrCode) (s : State) :
    sessionParams (raiseError code s) = sessionParams s := by
  unfold raiseError
  split <;> simp [sessionParams]

theorem sessionParams_startTimer (delay : Half) (w : Wait) {goOn : State → State} (s : State)
    (hgo : ∀ u, sessionParams (goOn u) = sessionParams u) :
    sessionParams (startTimer delay w goOn s) = sessionParams s := by
  rcases startTimer_cases delay w goOn s with ⟨_, heq⟩ | ⟨_, heq⟩ <;> rw [heq]
  · exact hgo _
  · rfl

theorem sessionParams_countTick {goOn : State → State} (s : State)
    (hgo : ∀ u, sessionParams (goOn u) = sessionParams u) : sessionParams (countTick goOn s) = sessionParams s := by
  rcases countTick_cases goOn s with ⟨_, heq⟩ | ⟨_, heq⟩ <;> rw [heq]
  · exact hgo _
  · rfl

/-! ### The transfer (44_transfer.md) -/

theorem sessionParams_sendLoop (n : Nat) : ∀ s, sessionParams (sendLoop n s) = sessionParams s := by
  induction n with
  | zero => exact fun _ => rfl
  | succ n ih =>
    intro s
    unfold sendLoop
    split
    · rfl
    · exact ih (sendNextChunk s)

theorem sessionParams_runPlane {atEnd : State → State} (s : State)
    (hend : ∀ u, sessionParams (atEnd u) = sessionParams u) : sessionParams (runPlane atEnd s) = sessionParams s := by
  unfold runPlane
  split
  · exact hend s
  · exact sessionParams_sendLoop _ s

theorem sessionParams_planeEnd (s : State) : sessionParams (planeEnd s) = sessionParams s := by
  unfold planeEnd
  split
  · exact sessionParams_runPlane (loadPlane .r s) fun _ => rfl
  · rfl

theorem sessionParams_startPlaneB (s : State) : sessionParams (startPlaneB s) = sessionParams s :=
  sessionParams_runPlane (loadPlane .b s) sessionParams_planeEnd

theorem sessionParams_continueTransfer (s : State) : sessionParams (continueTransfer s) = sessionParams s := by
  unfold continueTransfer
  split
  · exact sessionParams_sendLoop _ s
  · exact sessionParams_planeEnd s

/-! ### Commands -/

theorem sessionParams_beginTransfer (s : State) : sessionParams (beginTransfer s) = sessionParams s := by
  unfold beginTransfer
  dsimp only
  split
  · rfl
  · exact sessionParams_startPlaneB { s with nplanes := if s.packedMode = .tri then 2 else 1, cs := s.tu - 1 }

theorem sessionParams_acceptXfer (s : State) : sessionParams (acceptXfer s) = sessionParams s := by
  unfold acceptXfer
  dsimp only
  repeat' split
  · exact sessionParams_raiseError _ s
  · exact sessionParams_raiseError _ { accept .xferOp s with seqState := .transferring }
  · exact sessionParams_raiseError _ { accept .xferOp s with seqState := .transferring }
  · exact sessionParams_beginTransfer { accept .xferOp s with seqState := .transferring }

/-- Only OPEN sets the session's parameters at its acceptance, and it is accepted in DISCONNECTED only. -/
theorem sessionParams_hostCommand {command : State → State} (hc : command ∈ hostCommands)
    (hq : s.seqState ≠ .disconnected) : sessionParams (command s) = sessionParams s := by
  simp only [hostCommands, List.mem_cons, List.not_mem_nil, or_false] at hc
  rcases hc with rfl | rfl | rfl | rfl | rfl | rfl | rfl | rfl
  · exact sessionParams_complete s
  · rw [acceptOpen_sequence hq]
    exact sessionParams_raiseError _ s
  · unfold acceptQuant
    repeat' split
    · exact sessionParams_raiseError _ s
    · exact sessionParams_raiseError _ s
    · exact sessionParams_raiseError _ s
    · rfl
  · unfold acceptPack
    split
    · exact sessionParams_raiseError _ s
    · rfl
  · exact sessionParams_acceptXfer s
  · unfold acceptClose
    split
    · rfl
    · exact sessionParams_raiseError _ s
  · unfold loadKernel
    split
    · exact sessionParams_raiseError _ s
    · exact sessionParams_complete _
  · exact sessionParams_raiseError _ s

theorem sessionParams_present {command : State → State} (hc : command ∈ hostCommands)
    (hq : s.seqState ≠ .disconnected) : sessionParams (present command s) = sessionParams s := by
  cases hb : s.status.busy with
  | true => rw [present_busy command s hb]; rfl
  | false =>
    rw [present_idle command s hb]
    exact sessionParams_hostCommand (s := cleared s) hc hq

/-! ### Host accesses (20_memory.md R80, R82) -/

/-- A host write presents a command, writes a register or a pixel, or does nothing. -/
theorem onHostWrite_cases {addr d : Word} (h : onHostWrite addr d s = .next t) :
    (∃ command ∈ hostCommands, t = present command s) ∨ (∃ r, t = writeReg d s r) ∨ (∃ q, t = loadPixel s q d) ∨
      t = s := by
  unfold onHostWrite at h
  split at h
  · split at h
    · obtain ⟨command, hc, heq⟩ := exec_decodeCommand d s
      rw [heq] at h
      cases h
      exact .inl ⟨command, hc, rfl⟩
    · split at h <;> cases h
      · exact .inr (.inr (.inr rfl))
      · exact .inr (.inl ⟨_, rfl⟩)
  · split at h <;> cases h
    · exact .inr (.inr (.inr rfl))
    · exact .inr (.inr (.inl ⟨_, rfl⟩))
  · cases h; exact .inr (.inr (.inr rfl))
  · cases h; exact .inr (.inr (.inr rfl))

/-- A host read only answers (20_memory.md R72, R80). -/
theorem onHostRead_frame (addr : Word) (s : State) :
    ∃ word n, onHostRead addr s = { s with rdData := word, freeIdx := n } := by
  unfold onHostRead readWindow
  repeat' split
  all_goals exact ⟨_, _, rfl⟩

theorem sessionParams_onHostWrite {addr d : Word} (hq : s.seqState ≠ .disconnected)
    (h : onHostWrite addr d s = .next t) : sessionParams t = sessionParams s := by
  rcases onHostWrite_cases h with ⟨command, hc, rfl⟩ | ⟨r, rfl⟩ | ⟨q, rfl⟩ | rfl
  · exact sessionParams_present hc hq
  · cases r <;> rfl
  · rfl
  · rfl

/-! ### Responses, ticks, notifications and the engine -/

/-- Outside NEGOTIATING the sequencer is not at the wait points of negotiation. -/
theorem Legal.not_negotiating (h : Legal full s) (hq : s.seqState ≠ .negotiating) :
    s.wait ≠ .initAck ∧ s.wait ≠ .negotiate := by
  have hpos := h.position
  constructor <;> intro hw <;> simp [hw, hq, legalPositions] at hpos

/-- No response but that to INIT sets the session's parameters. -/
theorem sessionParams_onLinkRsp (hw : s.wait ≠ .initAck) (ok : Bool) (maxpl : Nat) :
    sessionParams (onLinkRsp ok maxpl s) = sessionParams s := by
  unfold onLinkRsp
  split
  · unfold onConnectRsp
    split
    · rfl
    · exact sessionParams_raiseError _ s
  · unfold onSubscribeRsp
    split
    · rfl
    · exact sessionParams_raiseError _ s
  · exact absurd ‹_› hw
  · unfold onClearAck
    split
    · exact sessionParams_raiseError _ s
    · exact sessionParams_startTimer _ _ s sessionParams_startPlaneB
  · unfold onChunkAck
    split
    · exact sessionParams_raiseError _ s
    · exact sessionParams_startTimer _ _ { s with ilCnt := s.interleave } sessionParams_continueTransfer
  · unfold onRefreshAck
    split
    · exact sessionParams_raiseError _ s
    · exact sessionParams_startTimer _ _ s fun _ => rfl
  · rw [onUnsubscribeRsp, noteTeardownRsp_eq]
    rfl
  · rw [onDisconnectRsp_eq]
    rfl
  all_goals rfl

/-- No tick but that of the negotiation timer sets the session's parameters. -/
theorem sessionParams_onTick (hw : s.wait ≠ .negotiate) : sessionParams (onTick s) = sessionParams s := by
  unfold onTick
  split
  · exact absurd ‹_› hw
  · exact sessionParams_countTick s sessionParams_startPlaneB
  · exact sessionParams_countTick s sessionParams_continueTransfer
  · exact sessionParams_countTick s fun _ => rfl
  all_goals rfl

/-- The MTU latch works in NEGOTIATING only (43_session.md R179). -/
theorem sessionParams_recordNotification (hq : s.seqState ≠ .negotiating) (bytes : List Byte) :
    sessionParams (recordNotification bytes s) = sessionParams s := by
  by_cases hcfg : s.status.cfgRcvd = true
  · rw [recordNotification_later hcfg]
    cases hutf : utf8Ok bytes with
    | false => rw [laterNotification_malformed hutf]; rfl
    | true => rw [laterNotification_ignored (s := notified s) hutf (.inr (.inl hq))]; rfl
  · rw [recordNotification, if_neg hcfg]
    unfold configNotification modelLookup
    repeat' split
    all_goals rfl

theorem sessionParams_onNotify (hq : s.seqState ≠ .negotiating) (hw : s.wait ≠ .negotiate) (bytes : List Byte) :
    sessionParams (onNotify bytes s) = sessionParams s := by
  cases hsub : s.status.subscribed with
  | false => rw [onNotify, if_pos hsub]
  | true =>
    rw [onNotify_recorded hsub fun h => absurd h hw]
    exact sessionParams_recordNotification hq bytes

theorem PixOnly.sessionParams (h : PixOnly s t) : sessionParams t = sessionParams s := by
  rw [show t = _ from h]
  rfl

theorem sessionParams_runQuant (s : State) : sessionParams (runQuant s) = sessionParams s := by
  unfold runQuant
  split
  · exact (sessionParams_complete _).trans (plainPass_pixOnly _ s).sessionParams
  · have hpass := (diffusePass_pixOnly (List.range (pixelCount s)) s).sessionParams
    split <;> rename_i v heq <;> rw [heq] at hpass
    · exact (sessionParams_complete v).trans hpass
    · exact (sessionParams_raiseError _ v).trans hpass
  · exact (sessionParams_complete _).trans (orderedPass_pixOnly _ s).sessionParams
  · exact sessionParams_complete s

theorem sessionParams_runPack (s : State) : sessionParams (runPack s) = sessionParams s := by
  unfold runPack
  rw [show packPlanes s = _ from packPlanes_planesOnly s]
  exact sessionParams_complete _

theorem sessionParams_onEngine (s : State) : sessionParams (onEngine s) = sessionParams s := by
  unfold onEngine
  split
  · split
    · exact sessionParams_runQuant s
    · exact sessionParams_runPack s
    all_goals rfl
  · rfl

/-! ### The statement -/

/-- Outside DISCONNECTED and NEGOTIATING no event but reset sets the session's parameters. -/
theorem sessionParams_onEvent (h : Legal full s) {e : Event} (ht : onEvent e s = .next t) (hreset : e ≠ .resetInput)
    (hdis : s.seqState ≠ .disconnected) (hneg : s.seqState ≠ .negotiating) : sessionParams t = sessionParams s := by
  obtain ⟨hinit, hnegotiate⟩ := h.not_negotiating hneg
  cases e with
  | hostWrite addr d => exact sessionParams_onHostWrite hdis ht
  | hostRead addr =>
    cases ht
    obtain ⟨word, n, heq⟩ := onHostRead_frame addr s
    rw [heq]
    rfl
  | linkRsp ok maxpl => cases ht; exact sessionParams_onLinkRsp hinit ok maxpl
  | notify bytes => cases ht; exact sessionParams_onNotify hneg hnegotiate bytes
  | tick => cases ht; exact sessionParams_onTick hnegotiate
  | engine => cases ht; exact sessionParams_onEngine s
  | resetInput => exact absurd rfl hreset

/-- Settles O56. -/
theorem sessionParametersFixed : Obligations.SessionParametersFixed := by
  intro s t e hcontrol hstep hreset hq
  have hlegal := (legal_false_iff s).2 hcontrol
  obtain ⟨_, _, _, _, hframer⟩ := hlegal.running
  rw [step_deliver s e hframer] at hstep
  refine sessionParams_eq_iff.1 (sessionParams_onEvent hlegal hstep hreset ?_ ?_) <;>
    exact fun heq => by simp [heq] at hq

end Sys2Proof.Machine
end

section
/-! How OPEN ends (43_session.md R187): in READY with DONE, or after its teardown with ERR. -/

namespace Sys2Proof.Machine

variable {full : Prop} {s t : State}

/-- OPEN has ended: in READY with DONE and a resolution, or in DISCONNECTED with ERR and an error code. -/
def OpenEnded (t : State) : Prop :=
  t.curOp = .none ∧ t.status.busy = false ∧
  ((t.seqState = .ready ∧ t.status.done = true ∧ t.status.err = false ∧ t.status.resValid = true) ∨
   (t.seqState = .disconnected ∧ t.status.err = true ∧ t.status.done = false ∧ t.errcode ≠ .none))

/-- OPEN goes on, or it has ended. -/
def OpenAfter (t : State) : Prop := t.curOp = .openOp ∨ OpenEnded t

/-- Where OPEN stands (43_session.md R192). -/
theorem Legal.open_cases (h : Legal full s) (hop : s.curOp = .openOp) :
    (Live full .openOp .connecting s ∧ (s.wait = .connect ∨ s.wait = .subscribe)) ∨
    (Live full .openOp .negotiating s ∧ (s.wait = .initAck ∨ s.wait = .negotiate)) ∨
    (Live full .openOp .teardown s ∧ (s.wait = .unsubscribe ∨ s.wait = .disconnect)) := by
  have hlive := h.live (by simp [hop])
  have hpos := h.position
  rw [hop] at hlive hpos
  simp only [legalPositions, List.mem_cons, Prod.mk.injEq, reduceCtorEq, false_and, true_and, false_or, or_false,
    List.not_mem_nil] at hpos
  rcases hpos with ⟨hq, hw⟩ | ⟨hq, hw⟩ | ⟨hq, hw⟩ | ⟨hq, hw⟩ | ⟨hq, hw⟩ | ⟨hq, hw⟩ <;> rw [hq] at hlive <;> tauto

/-! ### The rules of OPEN -/

theorem Live.curOp {op : CurOp} {q : SeqState} (h : Live full op q s) : s.curOp = op := by
  obtain ⟨⟨hop, _⟩, _⟩ := h
  exact hop

/-- A session error starts teardown for the same command. -/
theorem raiseError_session_curOp {code : ErrCode} (hcode : errClass code = .sessionError) (s : State) :
    (raiseError code s).curOp = s.curOp := by
  rw [raiseError_session code s hcode, startTeardown_curOp, recordError_curOp]

theorem resolve_open (h : Live True .openOp .negotiating s) : OpenAfter (resolve s) := by
  obtain ⟨⟨hop, _⟩, hdata⟩ := h
  obtain ⟨⟨_, _, _, herr⟩, hcode, _⟩ := hdata trivial
  rcases resolve_cases s with ⟨code, hclass, heq⟩ | ⟨w, ht, heq⟩ <;> rw [heq]
  · exact .inl ((raiseError_session_curOp hclass s).trans hop)
  · have hnone : (resolvedWith w ht s).errcode = .none := hcode (by simp)
    rw [complete_of_noError hnone]
    exact .inr ⟨rfl, rfl, .inl ⟨rfl, rfl, herr, rfl⟩⟩

theorem negotiationTimeout_open (h : Live True .openOp .negotiating s) : OpenAfter (negotiationTimeout s) :=
  resolve_open (s := { s with
    status := { s.status with negTo := true }, tu := if s.status.mtuRcvd then s.tu else s.linkmax }) h

theorem onInitAck_open (h : Live True .openOp .negotiating s) (ok : Bool) : OpenAfter (onInitAck ok s) := by
  unfold onInitAck
  split
  · exact .inl ((raiseError_session_curOp rfl s).trans h.curOp)
  · split
    · exact resolve_open h
    · rcases startTimer_cases s.tNeg .negotiate negotiationTimeout s with ⟨_, heq⟩ | ⟨_, heq⟩ <;> rw [heq]
      · exact negotiationTimeout_open (s := { s with timer := s.tNeg }) h
      · exact .inl h.curOp

/-- An OPEN that is torn down has an error, which no teardown response replaces. -/
theorem onDisconnectRsp_open (h : Live True .openOp .teardown s) (ok : Bool) : OpenAfter (onDisconnectRsp ok s) := by
  obtain ⟨⟨_, _, hdone, _⟩, _, herr⟩ := h.2 trivial
  have hne : s.errcode ≠ .none := herr rfl rfl
  have hcode : teardownCode ok s = s.errcode := if_neg fun hfail => hne hfail.2
  rw [onDisconnectRsp_eq, hcode, if_neg hne, if_neg hne]
  exact .inr ⟨rfl, rfl, .inr ⟨rfl, rfl, hdone, hne⟩⟩

/-! ### The events -/

theorem onLinkRsp_open (h : Legal True s) (hop : s.curOp = .openOp) (ok : Bool) (maxpl : Nat) :
    OpenAfter (onLinkRsp ok maxpl s) := by
  rcases h.open_cases hop with ⟨_, hw | hw⟩ | ⟨hlive, hw | hw⟩ | ⟨hlive, hw | hw⟩ <;> simp only [onLinkRsp, hw]
  · unfold onConnectRsp
    split
    · exact .inl hop
    · exact .inl ((raiseError_session_curOp rfl s).trans hop)
  · unfold onSubscribeRsp
    split
    · exact .inl hop
    · exact .inl ((raiseError_session_curOp rfl s).trans hop)
  · exact onInitAck_open hlive ok
  · exact .inl hop
  · rw [onUnsubscribeRsp, noteTeardownRsp_eq]
    exact .inl hop
  · exact onDisconnectRsp_open hlive ok

theorem onTick_open (h : Legal True s) (hop : s.curOp = .openOp) : OpenAfter (onTick s) := by
  by_cases hw : s.wait = .negotiate
  · simp only [onTick, hw]
    rcases countTick_cases negotiationTimeout s with ⟨_, heq⟩ | ⟨_, heq⟩ <;> rw [heq]
    · exact negotiationTimeout_open (s := { s with timer := s.timer - 1 }) (h.live_negotiate hw)
    · exact .inl hop
  · have hkept : onTick s = s := by
      rcases h.open_cases hop with ⟨_, hw' | hw'⟩ | ⟨_, hw' | hw'⟩ | ⟨_, hw' | hw'⟩ <;> simp only [onTick, hw']
      exact absurd hw' hw
    rw [hkept]
    exact .inl hop

theorem onNotify_open (h : Legal True s) (hop : s.curOp = .openOp) (bytes : List Byte) :
    OpenAfter (onNotify bytes s) := by
  obtain ⟨_, _, _, _, _, _, _, _, _, _, _, heq⟩ := recordNotification_frame bytes s
  have hop' : (recordNotification bytes s).curOp = .openOp := by rw [heq]; exact hop
  unfold onNotify
  split
  · exact .inl hop
  · split
    · rename_i hboth
      have hw : (recordNotification bytes s).wait = .negotiate := by rw [heq]; exact hboth.1
      exact resolve_open ((recordNotification_legal h bytes).live_negotiate hw)
    · exact .inl hop'

/-- A host write while a command is in progress leaves it in progress. -/
theorem onHostWrite_busy_curOp {addr d : Word} (hb : s.status.busy = true) (h : onHostWrite addr d s = .next t) :
    t.curOp = s.curOp := by
  rcases onHostWrite_cases h with ⟨command, _, rfl⟩ | ⟨r, rfl⟩ | ⟨q, rfl⟩ | rfl
  · rw [present_busy command s hb]
  · obtain ⟨_, _, _, hcur, _⟩ := writeReg_frame d s r
    exact hcur
  · rfl
  · rfl

theorem onEvent_open (h : Legal True s) (hop : s.curOp = .openOp) {e : Event} (ht : onEvent e s = .next t)
    (hreset : e ≠ .resetInput) : OpenAfter t := by
  obtain ⟨_, _, hbusy, _, _⟩ := h.running
  cases e with
  | hostWrite addr d => exact .inl ((onHostWrite_busy_curOp (hbusy.2 (by simp [hop])) ht).trans hop)
  | hostRead addr =>
    cases ht
    obtain ⟨word, n, heq⟩ := onHostRead_frame addr s
    rw [heq]
    exact .inl hop
  | linkRsp ok maxpl => cases ht; exact onLinkRsp_open h hop ok maxpl
  | notify bytes => cases ht; exact onNotify_open h hop bytes
  | tick => cases ht; exact onTick_open h hop
  | engine =>
    cases ht
    have hkept : onEngine s = s := by simp [onEngine, hop]
    rw [hkept]
    exact .inl hop
  | resetInput => exact absurd rfl hreset

/-- Settles O57. -/
theorem openOutcome : Obligations.OpenOutcome := by
  intro s t e hinv hstep hreset hop hend
  have hlegal := (legal_true_iff s).2 hinv
  obtain ⟨_, _, _, _, hframer⟩ := hlegal.running
  rw [step_deliver s e hframer] at hstep
  exact (onEvent_open hlegal hop hstep hreset).resolve_left hend

end Sys2Proof.Machine
end

section
/-! XFER up to its first request (44_transfer.md R200), a frame with a chunk (45_codec.md R224), and the settle delay
after REFRESH (44_transfer.md R210, R211). -/

namespace Sys2Proof.Machine

variable {s : State}

/-! ### Delays (60_exceptions.md R245) -/

/-- A delay of 0 goes on at once, with the timer at 0. -/
theorem startTimer_eq (delay : Half) (w : Wait) (goOn : State → State) (s : State) :
    startTimer delay w goOn s =
      if delay = 0 then goOn { s with timer := 0 } else { s with timer := delay, wait := w } := by
  rcases startTimer_cases delay w goOn s with ⟨hzero, heq⟩ | ⟨hne, heq⟩
  · rw [heq, if_pos hzero, hzero]
  · rw [heq, if_neg hne]

/-- The tick that finds the timer at 1 goes on, with the timer at 0. -/
theorem countTick_eq (goOn : State → State) (s : State) :
    countTick goOn s = if s.timer = 1 then goOn { s with timer := 0 } else { s with timer := s.timer - 1 } := by
  rcases countTick_cases goOn s with ⟨hlast, heq⟩ | ⟨hmore, heq⟩
  · rw [heq, if_pos (sub_eq_zero.1 hlast), hlast]
  · rw [heq, if_neg fun hone => hmore (sub_eq_zero.2 hone)]

/-! ### XFER's checks (44_transfer.md R200, 60_exceptions.md R235) -/

/-- The state in which XFER makes its own checks: the command is accepted. -/
def xferAccepted (s : State) : State := { accept .xferOp s with seqState := .transferring }

/-- The state with the plane count PACK used and the chunk size. -/
def transferSet (s : State) : State :=
  { s with nplanes := if s.packedMode = .tri then 2 else 1, cs := s.tu - 1 }

/-- XFER's preconditions hold. -/
def XferReady (s : State) : Prop := (imageReady s && s.status.planesValid) = true

theorem xferReady_of (hready : s.seqState = .ready) (hres : s.status.resValid = true)
    (hplanes : s.status.planesValid = true) : XferReady s := by
  rw [XferReady, imageReady_iff.2 ⟨hready, hres⟩, hplanes]
  rfl

theorem acceptXfer_transferUnit (h : XferReady s) (htu : s.tu.toNat ≤ 1) :
    acceptXfer s = raiseError .cfgTransferUnit (xferAccepted s) := by
  rw [acceptXfer, if_neg (by rw [h]; simp)]
  exact if_pos htu

theorem acceptXfer_interleave (h : XferReady s) (htu : 2 ≤ s.tu.toNat) (hil : s.interleave = 0) :
    acceptXfer s = raiseError .cfgInterleave (xferAccepted s) := by
  rw [acceptXfer, if_neg (by rw [h]; simp)]
  exact (if_neg (Nat.not_le.2 htu)).trans (if_pos hil)

theorem acceptXfer_begins (h : XferReady s) (htu : 2 ≤ s.tu.toNat) (hil : s.interleave ≠ 0) :
    acceptXfer s = beginTransfer (xferAccepted s) := by
  rw [acceptXfer, if_neg (by rw [h]; simp)]
  exact (if_neg (Nat.not_le.2 htu)).trans (if_neg hil)

theorem beginTransfer_clear (h : s.clearEn = true) : beginTransfer s = issueClear (transferSet s) := if_pos h

theorem beginTransfer_plane (h : s.clearEn = false) : beginTransfer s = startPlaneB (transferSet s) :=
  if_neg (by simp [h])

/-- A session error is recorded if it is the first one. -/
theorem raiseError_first {code : ErrCode} (hcode : errClass code = .sessionError) (h : s.errcode = .none) :
    raiseError code s = startTeardown { s with errcode := code } := by
  rw [raiseError_session code s hcode, recordError, if_pos h]

/-- Settles O13. -/
theorem xferSendsClear : Obligations.XferSendsClear := by
  intro s hb hready hres hplanes htu hil hclear
  have hsent : acceptXfer (cleared s) = issueClear (transferSet (xferAccepted (cleared s))) :=
    (acceptXfer_begins (s := cleared s) (xferReady_of hready hres hplanes) htu hil).trans (beginTransfer_clear hclear)
  exact congrArg Host.Outcome.next ((present_idle acceptXfer s hb).trans hsent)

/-- Settles O15: the checks run on a state without an error, so each records its code. -/
theorem xferConfigErrors : Obligations.XferConfigErrors := by
  intro s hb hready hres hplanes failed
  have hpre : XferReady (cleared s) := xferReady_of hready hres hplanes
  have hfailed {code : ErrCode} (hcode : errClass code = .sessionError)
      (h : acceptXfer (cleared s) = raiseError code (xferAccepted (cleared s))) : exec .xfer s = failed code :=
    congrArg Host.Outcome.next ((present_idle acceptXfer s hb).trans (h.trans (raiseError_first hcode rfl)))
  exact ⟨fun htu => hfailed rfl (acceptXfer_transferUnit hpre htu),
    fun htu hil => hfailed rfl (acceptXfer_interleave hpre htu hil)⟩

/-! ### A frame with a chunk (45_codec.md R224) -/

theorem nextChunkAcked_eq (s : State) :
    nextChunkAcked s = (decide (s.ilCnt = 1) || decide (s.chunkIdx.toNat + 1 = s.chunkCnt.toNat)) := by
  simp only [nextChunkAcked, sub_eq_zero]

/-- Settles O19. -/
theorem imageFrameIssued : Obligations.ImageFrameIssued := by
  intro s hdr chunk ack
  have hack : nextChunkAcked s = ack := nextChunkAcked_eq s
  show Host.Outcome.next (issueChunk hdr chunk s) = _
  rw [issueChunk, hack]
  rfl

/-! ### The end of the transfer (44_transfer.md R210, R211) -/

/-- Settles O41. -/
theorem refreshDelay : Obligations.RefreshDelay := by
  intro s maxpl hframer ended
  refine ⟨fun hw => ?_, fun hw _ => ?_⟩
  · have hrsp : ∀ ok, onLinkRsp ok maxpl s = onRefreshAck ok s := fun ok => by simp only [onLinkRsp, hw]
    rw [step_linkRsp hframer, step_linkRsp hframer, hrsp, hrsp]
    exact ⟨rfl, congrArg Host.Outcome.next (startTimer_eq s.tRefresh .settleRefresh startTeardown s)⟩
  · have htick : onTick s = countTick startTeardown s := by simp only [onTick, hw]
    rw [step_tick hframer, htick, countTick_eq]
    rfl

end Sys2Proof.Machine
end

section
/-! The chunks of a plane (44_transfer.md R205, R206): which bytes they carry, and how many are acknowledged. -/

namespace Sys2Proof.Machine

variable {s : State}

/-! ### Bytes (44_transfer.md R205) -/

/-- A chunk has the index of a chunk of the plane exactly if a byte of the plane lies at its offset. -/
theorem lt_chunkTotal_iff (hcs : s.cs ≠ 0) (i : Nat) :
    i < chunkTotal s ↔ i * s.cs.toNat < s.planeLen.toNat := by
  have hle : chunkTotal s ≤ i ↔ s.planeLen.toNat ≤ i * s.cs.toNat := by
    rw [chunkTotal, ceilDiv, ← Nat.ceilDiv_eq_add_pred_div, ceilDiv_le_iff_le_mul (one_le_toNat_of_ne_zero hcs),
      Nat.mul_comm]
  rw [← not_le, hle, not_le]

theorem length_chunkBytes (s : State) (pl : Plane) (i : Nat) :
    (chunkBytes s pl i).length = min s.cs.toNat (s.planeLen.toNat - i * s.cs.toNat) := by
  simp [chunkBytes, planeSlice]

/-- Two slices of plane memory that meet are one slice. -/
theorem planeSlice_add (s : State) (first m n : Nat) :
    planeSlice s first (m + n) = planeSlice s first m ++ planeSlice s (first + m) n := by
  simp [planeSlice, List.range_add, Function.comp_def, Nat.add_assoc]

/-- The first `k` chunks carry the first bytes of the plane, `CS` bytes each until the plane is carried whole. -/
theorem flatMap_chunkBytes (s : State) (pl : Plane) (k : Nat) :
    (List.range k).flatMap (chunkBytes s pl) =
      planeSlice s (planeIndex pl * s.planeLen.toNat) (min (k * s.cs.toNat) s.planeLen.toNat) := by
  induction k with
  | zero => simp [planeSlice]
  | succ k ih =>
    rw [List.range_succ, List.flatMap_append, ih, List.flatMap_singleton, Nat.add_one_mul]
    rcases Nat.le_total (k * s.cs.toNat) s.planeLen.toNat with hwithin | hbeyond
    · rw [Nat.min_eq_left hwithin, chunkBytes, ← planeSlice_add]
      congr 1
      omega
    · have hempty : chunkBytes s pl k = [] := List.eq_nil_of_length_eq_zero (by rw [length_chunkBytes]; omega)
      rw [hempty, List.append_nil]
      congr 1
      omega

/-- Settles O42. -/
theorem chunkCoverage : Obligations.ChunkCoverage := by
  intro s pl hcs
  have hin := lt_chunkTotal_iff hcs
  refine ⟨?_, fun i hi => ?_, fun i hi => ?_⟩
  · have hall : s.planeLen.toNat ≤ chunkTotal s * s.cs.toNat := Nat.not_lt.1 fun h => Nat.lt_irrefl _ ((hin _).2 h)
    rw [flatMap_chunkBytes, Nat.min_eq_right hall]
  · have hnext := (hin (i + 1)).1 hi
    rw [Nat.add_one_mul] at hnext
    rw [length_chunkBytes]
    omega
  · have hlast := (hin i).1 (by omega)
    have hend : s.planeLen.toNat ≤ (i + 1) * s.cs.toNat := Nat.not_lt.1 fun h => by have := (hin _).2 h; omega
    rw [Nat.add_one_mul] at hend
    rw [length_chunkBytes]
    omega

/-! ### Acknowledgments (44_transfer.md R206) -/

/-- Among the first `m` chunks of a longer plane, those that use up the interleave count are acknowledged. -/
theorem length_filter_chunkAcked {m : Nat} (hm : m < chunkTotal s) :
    ((List.range m).filter (chunkAcked s)).length = m / s.interleave.toNat := by
  have hmultiples : (List.range m).filter (chunkAcked s) =
      (List.range m).filter (fun i => decide (s.interleave.toNat ∣ i + 1)) := by
    refine List.filter_congr fun i hi => ?_
    have hlast : i + 1 ≠ chunkTotal s := by have := List.mem_range.1 hi; omega
    simp [chunkAcked, hlast, Nat.dvd_iff_mod_eq_zero]
  rw [hmultiples]
  exact Nat.card_multiples m s.interleave.toNat

/-- Settles O43: of the chunks before the last, every `N`-th is acknowledged; the last always is. -/
theorem acknowledgedCount : Obligations.AcknowledgedCount := by
  intro s hil
  have hpos := one_le_toNat_of_ne_zero hil
  cases htotal : chunkTotal s with
  | zero => simp [Nat.div_eq_of_lt (show s.interleave.toNat - 1 < s.interleave.toNat by omega)]
  | succ m =>
    have hlast : chunkAcked s m = true := by simp [chunkAcked, htotal]
    rw [List.range_succ, List.filter_append, List.length_append, length_filter_chunkAcked (by omega),
      show m + 1 + s.interleave.toNat - 1 = m + s.interleave.toNat by omega, Nat.add_div_right m hpos]
    simp [hlast]

end Sys2Proof.Machine
end

section
/-! The runs of chunks of a transfer (44_transfer.md R203 to R209): in the states of the invariant the loop of R204
sends the chunks that `runSent` names, and `transferGoesOn` says what follows an acknowledged chunk. -/

namespace Sys2Proof.Machine

variable {s : State}

/-! ### One run (44_transfer.md R204 to R206) -/

/-- In a run that starts on a multiple of the interleave count only the last chunk is acknowledged. -/
theorem chunkAcked_run {first j : Nat} (hmod : first % s.interleave.toNat = 0) (hj : j < runLength s first) :
    chunkAcked s (first + j) = decide (j + 1 = runLength s first) := by
  unfold runLength at hj ⊢
  have hcount : (first + j + 1) % s.interleave.toNat = 0 ↔ j + 1 = s.interleave.toNat := by
    rw [Nat.add_assoc, ← Nat.dvd_iff_mod_eq_zero, Nat.dvd_add_right (Nat.dvd_of_mod_eq_zero hmod)]
    exact ⟨fun hdvd => Nat.le_antisymm (by omega) (Nat.le_of_dvd (by omega) hdvd), fun heq => heq ▸ dvd_rfl⟩
  rw [chunkAcked, ← Bool.decide_or, decide_eq_decide, hcount]
  omega

/-- What the loop sends from the plane's registers is the chunk of the plane they were loaded for. -/
theorem loadedRequest_eq_chunkRequest (hbase : s.base.toNat = planeIndex s.plane * s.planeLen.toNat)
    (hsel : s.sel = planeSelector s.cfg s.plane) (i : Nat) :
    loadedRequest s i (chunkAcked s i) = chunkRequest s s.plane i := by
  rw [loadedRequest, hbase, hsel]
  rfl

/-- The loop sends one run of the plane (44_transfer.md R204). -/
theorem PlaneReady.sendChunks_eq (h : PlaneReady s) (hlt : s.chunkIdx.toNat < chunkTotal s) (hil : s.interleave ≠ 0) :
    sendChunks s = runSent s s.plane s.chunkIdx.toNat := by
  obtain ⟨hbase, hsel, hcnt, hmod, hfull, _⟩ := h
  have hrun : min s.ilCnt.toNat (s.chunkCnt.toNat - s.chunkIdx.toNat) = runLength s s.chunkIdx.toNat := by
    rw [hfull, hcnt, runLength]
  have hreqs : ((List.range (runLength s s.chunkIdx.toNat)).map fun j =>
        loadedRequest s (s.chunkIdx.toNat + j) (decide (j + 1 = runLength s s.chunkIdx.toNat))) =
      (List.range (runLength s s.chunkIdx.toNat)).map fun j => chunkRequest s s.plane (s.chunkIdx.toNat + j) :=
    List.map_congr_left fun j hj => by
      rw [← chunkAcked_run hmod (List.mem_range.1 hj), loadedRequest_eq_chunkRequest hbase hsel]
  have hclosed := sendLoop_closed (s.chunkCnt.toNat - s.chunkIdx.toNat) s (by omega) (by omega)
    (by rw [hfull]; exact one_le_toNat_of_ne_zero hil)
  rw [sendChunks, hclosed, hrun, hreqs, afterChunks, runSent, ← hbase, ← hsel, ← hcnt, hfull]
  simp only [BitVec.ofNat_add, BitVec.ofNat_toNat, BitVec.setWidth_eq]

/-! ### Planes (44_transfer.md R203, R209) -/

theorem TransferSetup.chunkTotal_pos (hx : TransferSetup s) (hlen : s.planeLen ≠ 0) : 0 < chunkTotal s := by
  have hcs : s.cs ≠ 0 := fun hzero => by
    have hpos := hx.cs_pos
    simp [hzero] at hpos
  rw [lt_chunkTotal_iff hcs, Nat.zero_mul]
  exact one_le_toNat_of_ne_zero hlen

/-- A plane start sends the first run of a plane that is not empty. -/
theorem runPlane_loadPlane (hx : TransferSetup s) (hlen : s.planeLen ≠ 0) {pl : Plane}
    (hpl : pl = .r → s.packedMode = .tri) (atEnd : State → State) :
    runPlane atEnd (loadPlane pl s) = runSent s pl 0 := by
  have hready := planeReady_loadPlane hx pl hpl
  have ⟨_, _, hcnt, _⟩ := hready
  have ⟨_, _, hil, _⟩ := hx
  have hpos : 0 < chunkTotal (loadPlane pl s) := hx.chunkTotal_pos hlen
  have hne : (loadPlane pl s).chunkCnt ≠ 0 := fun hzero => by
    rw [← hcnt, hzero] at hpos
    exact Nat.lt_irrefl 0 hpos
  rw [runPlane, if_neg hne]
  exact hready.sendChunks_eq hpos hil

theorem startPlaneB_eq (hx : TransferSetup s) (hlen : s.planeLen ≠ 0) : startPlaneB s = runSent s .b 0 :=
  runPlane_loadPlane hx hlen (by simp) planeEnd

/-- XFER counts two planes exactly if PACK made plane R. -/
theorem TransferSetup.one_lt_nplanes (hx : TransferSetup s) : 1 < s.nplanes.toNat ↔ s.packedMode = .tri := by
  obtain ⟨_, _, _, hn⟩ := hx
  rw [hn]
  split <;> simp_all

theorem planeEnd_eq (hx : TransferSetup s) (hlen : s.planeLen ≠ 0) :
    planeEnd s = if s.plane = .b ∧ s.packedMode = .tri then runSent s .r 0 else refreshSent s := by
  unfold planeEnd
  simp only [hx.one_lt_nplanes]
  split
  · rename_i hmore
    exact runPlane_loadPlane hx hlen (fun _ => hmore.2) startRefresh
  · rfl

/-- **continue** (44_transfer.md R208), with the counter full again. -/
theorem continueTransfer_eq (hx : TransferSetup s) (hlen : s.planeLen ≠ 0) (hp : PlaneOk s)
    (hfull : s.ilCnt = s.interleave) : continueTransfer s = transferGoesOn s := by
  have ⟨_, _, hcnt, _⟩ := hp
  have ⟨_, _, hil, _⟩ := hx
  rw [continueTransfer, transferGoesOn, planeEnd_eq hx hlen, hcnt]
  by_cases hlt : s.chunkIdx.toNat < chunkTotal s
  · rw [if_pos hlt, if_pos hlt]
    exact (hp.ready hfull (hcnt.symm ▸ hlt)).sendChunks_eq hlt hil
  · rw [if_neg hlt, if_neg hlt]

/-! ### The statements -/

/-- Valid planes are not empty (43_session.md R186, 42_bitplane.md R161). -/
theorem DataOk.planeLen_ne_zero (h : DataOk s) (hplanes : s.status.planesValid = true) : s.planeLen ≠ 0 := by
  obtain ⟨_, _, _, _, hres, hpv⟩ := h
  obtain ⟨hvalid, hlen⟩ := hpv hplanes
  obtain ⟨hw, hh, _⟩ := hres hvalid
  have hw := one_le_toNat_of_ne_zero hw
  have hh := one_le_toNat_of_ne_zero hh
  have hrow : 1 ≤ ceilDiv s.resW.toNat 8 := by
    unfold ceilDiv
    omega
  intro hzero
  rw [hzero, planeBytes] at hlen
  exact absurd hlen.symm (Nat.mul_pos hrow hh).ne'

/-- What the rules of the transfer find in a state of the invariant. -/
theorem Legal.transfer (h : Legal True s) (hw : s.wait ∈ [Wait.clearAck, .settleClear, .chunkAck, .pace]) :
    TransferSetup s ∧ s.planeLen ≠ 0 ∧ (s.wait = .chunkAck ∨ s.wait = .pace → PlaneOk s) := by
  obtain ⟨⟨_, hdata⟩, hx, hp⟩ := h.live_transfer hw
  obtain ⟨⟨hd, ⟨_, _, hplanes⟩, _⟩, _⟩ := hdata trivial
  exact ⟨hx trivial, hd.planeLen_ne_zero (hplanes (.inl rfl)), hp trivial⟩

/-- The response to CLEAR (44_transfer.md R201). -/
theorem onClearAck_success (hx : TransferSetup s) (hlen : s.planeLen ≠ 0) :
    onClearAck true s =
      if s.tClear = 0 then runSent { s with timer := 0 } .b 0
      else { s with timer := s.tClear, wait := .settleClear } := by
  rw [onClearAck, if_neg (by simp), startTimer_eq, startPlaneB_eq (s := { s with timer := 0 }) hx hlen]

/-- The response to an acknowledged chunk (44_transfer.md R207). -/
theorem onChunkAck_success (hx : TransferSetup s) (hlen : s.planeLen ≠ 0) (hp : PlaneOk s) :
    onChunkAck true s =
      if s.tPace = 0 then transferGoesOn { s with ilCnt := s.interleave, timer := 0 }
      else { s with ilCnt := s.interleave, timer := s.tPace, wait := .pace } := by
  have hgo := continueTransfer_eq (s := { s with ilCnt := s.interleave, timer := 0 }) hx hlen
    (hp.acknowledged.waiting rfl 0 s.wait) rfl
  rw [onChunkAck, if_neg (by simp), startTimer_eq, hgo]

/-- The ticks of the settle delay after CLEAR (44_transfer.md R202). -/
theorem countTick_startPlaneB (hx : TransferSetup s) (hlen : s.planeLen ≠ 0) :
    countTick startPlaneB s =
      if s.timer = 1 then runSent { s with timer := 0 } .b 0 else { s with timer := s.timer - 1 } := by
  rw [countTick_eq, startPlaneB_eq (s := { s with timer := 0 }) hx hlen]

/-- The ticks of the pacing delay (44_transfer.md R208). -/
theorem countTick_continueTransfer (hx : TransferSetup s) (hlen : s.planeLen ≠ 0) (hp : PlaneOk s)
    (hw : s.wait = .pace) :
    countTick continueTransfer s =
      if s.timer = 1 then transferGoesOn { s with timer := 0 } else { s with timer := s.timer - 1 } := by
  have ⟨_, _, _, _, _, hil, _⟩ := hp
  have hgo := continueTransfer_eq (s := { s with timer := 0 }) hx hlen (hp.waiting (hil hw) 0 s.wait) (hil hw)
  rw [countTick_eq, hgo]

/-- XFER's checks give what the transfer needs. -/
theorem transferSetup_transferSet (htu : 2 ≤ s.tu.toNat) (hil : s.interleave ≠ 0) : TransferSetup (transferSet s) :=
  ⟨htu, rfl, hil, rfl⟩

/-- Settles O14. -/
theorem xferStartsPlane : Obligations.XferStartsPlane := by
  intro s hb hready hres hplanes htu hil hclear hlen
  have hsent : acceptXfer (cleared s) = runSent (transferSet (xferAccepted (cleared s))) .b 0 :=
    calc acceptXfer (cleared s)
      _ = beginTransfer (xferAccepted (cleared s)) :=
        acceptXfer_begins (s := cleared s) (xferReady_of hready hres hplanes) htu hil
      _ = startPlaneB (transferSet (xferAccepted (cleared s))) := beginTransfer_plane hclear
      _ = runSent (transferSet (xferAccepted (cleared s))) .b 0 :=
        startPlaneB_eq (transferSetup_transferSet (s := xferAccepted (cleared s)) htu hil) hlen
  exact congrArg Host.Outcome.next ((present_idle acceptXfer s hb).trans hsent)

/-- Settles O39. -/
theorem clearDelay : Obligations.ClearDelay := by
  intro s maxpl hinv
  have hlegal := (legal_true_iff s).2 hinv
  obtain ⟨_, _, _, _, hframer⟩ := hlegal.running
  refine ⟨fun hw => ?_, fun hw => ?_⟩ <;> obtain ⟨hx, hlen, _⟩ := hlegal.transfer (by simp [hw])
  · have hrsp : ∀ ok, onLinkRsp ok maxpl s = onClearAck ok s := fun ok => by simp only [onLinkRsp, hw]
    rw [step_linkRsp hframer, step_linkRsp hframer, hrsp, hrsp, onClearAck_success hx hlen]
    exact ⟨rfl, rfl⟩
  · have htick : onTick s = countTick startPlaneB s := by simp only [onTick, hw]
    rw [step_tick hframer, htick, countTick_startPlaneB hx hlen]

/-- Settles O40. -/
theorem chunkAcknowledged : Obligations.ChunkAcknowledged := by
  intro s maxpl hinv
  have hlegal := (legal_true_iff s).2 hinv
  obtain ⟨_, _, _, _, hframer⟩ := hlegal.running
  refine ⟨fun hw => ?_, fun hw => ?_⟩ <;> obtain ⟨hx, hlen, hp⟩ := hlegal.transfer (by simp [hw])
  · have hrsp : ∀ ok, onLinkRsp ok maxpl s = onChunkAck ok s := fun ok => by simp only [onLinkRsp, hw]
    rw [step_linkRsp hframer, step_linkRsp hframer, hrsp, hrsp, onChunkAck_success hx hlen (hp (.inl hw))]
    exact ⟨rfl, rfl⟩
  · have htick : onTick s = countTick continueTransfer s := by simp only [onTick, hw]
    rw [step_tick hframer, htick, countTick_continueTransfer hx hlen (hp (.inr hw)) hw]

end Sys2Proof.Machine
end

section
/-! What a step emits (44_transfer.md R205, R206, R213, 45_codec.md R221 to R225): nothing, one request, or one run of
chunks. -/

namespace Sys2Proof.Machine

variable {s t : State}

/-- From `s` to `t` only requests that the rules define are emitted, no more than the interleave count, or one. -/
def EmitsLegal (s t : State) : Prop :=
  ∃ emitted, t.linkOut = s.linkOut ++ emitted ∧ (∀ r ∈ emitted, LegalRequest t r) ∧
    emitted.length ≤ max 1 t.interleave.toNat

/-! ### The ways to emit -/

theorem EmitsLegal.nothing (h : t.linkOut = s.linkOut) : EmitsLegal s t :=
  ⟨[], by rw [h, List.append_nil], by simp, by simp⟩

theorem EmitsLegal.one {r : LinkReq} (h : t.linkOut = s.linkOut ++ [r]) (hr : LegalRequest t r) : EmitsLegal s t :=
  ⟨[r], h, by simpa using hr, le_max_left _ _⟩

/-- Only the record of requests at the start counts. -/
theorem EmitsLegal.of_linkOut {u : State} (h : EmitsLegal u t) (hu : u.linkOut = s.linkOut) : EmitsLegal s t := by
  unfold EmitsLegal
  rw [← hu]
  exact h

theorem runLength_le_interleave (s : State) (first : Nat) : runLength s first ≤ s.interleave.toNat :=
  Nat.min_le_left _ _

theorem lt_chunkTotal_of_lt_runLength {first j : Nat} (h : j < runLength s first) : first + j < chunkTotal s := by
  unfold runLength at h
  omega

/-- A run of chunks of a plane that PACK made. -/
theorem runSent_emitsLegal (s : State) {pl : Plane} (hpl : pl = .b ∨ s.packedMode = .tri) (first : Nat) :
    EmitsLegal s (runSent s pl first) := by
  refine ⟨_, rfl, fun r hr => ?_, ?_⟩
  · obtain ⟨j, hj, rfl⟩ := List.mem_map.1 hr
    have hlt := lt_chunkTotal_of_lt_runLength (List.mem_range.1 hj)
    iterate 7 right
    exact ⟨pl, first + j, hpl, hlt, rfl⟩
  · rw [List.length_map, List.length_range]
    exact (runLength_le_interleave s first).trans (le_max_right _ _)

/-- A bare frame that the sequencer issues (45_codec.md R221 to R223). -/
theorem issueBare_emitsLegal {op : Byte} (hop : op = s.cfg.opInit ∨ op = s.cfg.opClear ∨ op = s.cfg.opRefresh)
    (w : Wait) : EmitsLegal s (issueBare op w s) := by
  refine .one (r := .write [op] true) rfl ?_
  rcases hop with rfl | rfl | rfl <;> simp [LegalRequest, issueBare]

theorem startTeardown_emitsLegal (s : State) : EmitsLegal s (startTeardown s) :=
  .one (r := .unsubscribe) rfl (by simp [LegalRequest])

/-- An error emits UNSUBSCRIBE or nothing (60_exceptions.md R236). -/
theorem raiseError_emitsLegal (code : ErrCode) (s : State) : EmitsLegal s (raiseError code s) := by
  unfold raiseError
  split
  · exact .nothing rfl
  · exact .nothing (by simp)
  · exact .one (r := .unsubscribe) (by simp) (by simp [LegalRequest])
  · exact .nothing (by simp)

theorem startTimer_emitsLegal {delay : Half} {w : Wait} {goOn : State → State}
    (hgo : EmitsLegal s (goOn { s with timer := 0 })) : EmitsLegal s (startTimer delay w goOn s) := by
  rw [startTimer_eq]
  split
  · exact hgo
  · exact .nothing rfl

theorem countTick_emitsLegal {goOn : State → State} (hgo : EmitsLegal s (goOn { s with timer := 0 })) :
    EmitsLegal s (countTick goOn s) := by
  rw [countTick_eq]
  split
  · exact hgo
  · exact .nothing rfl

/-! ### The session (43_session.md) -/

theorem resolve_emitsLegal (s : State) : EmitsLegal s (resolve s) := by
  rcases resolve_cases s with ⟨code, _, heq⟩ | ⟨w, h, heq⟩ <;> rw [heq]
  · exact raiseError_emitsLegal code s
  · exact .nothing (complete_linkOut _)

theorem negotiationTimeout_emitsLegal (s : State) : EmitsLegal s (negotiationTimeout s) :=
  resolve_emitsLegal { s with
    status := { s.status with negTo := true }, tu := if s.status.mtuRcvd then s.tu else s.linkmax }

theorem onInitAck_emitsLegal (ok : Bool) (s : State) : EmitsLegal s (onInitAck ok s) := by
  unfold onInitAck
  repeat' split
  · exact raiseError_emitsLegal _ s
  · exact resolve_emitsLegal s
  · exact startTimer_emitsLegal (negotiationTimeout_emitsLegal { s with timer := 0 })

theorem onNotify_emitsLegal (bytes : List Byte) (s : State) : EmitsLegal s (onNotify bytes s) := by
  obtain ⟨_, _, _, _, _, _, _, _, _, _, _, heq⟩ := recordNotification_frame bytes s
  have hout : (recordNotification bytes s).linkOut = s.linkOut := by rw [heq]
  unfold onNotify
  repeat' split
  · exact .nothing rfl
  · exact (resolve_emitsLegal _).of_linkOut hout
  · exact .nothing hout

/-! ### The transfer (44_transfer.md) -/

theorem refreshSent_emitsLegal (s : State) : EmitsLegal s (refreshSent s) :=
  issueBare_emitsLegal (s := { s with seqState := .refreshing }) (.inr (.inr rfl)) .refreshAck

theorem transferGoesOn_emitsLegal (hplane : s.plane = .r → s.packedMode = .tri) :
    EmitsLegal s (transferGoesOn s) := by
  have hpl : s.plane = .b ∨ s.packedMode = .tri := by
    cases hs : s.plane with
    | b => exact .inl rfl
    | r => exact .inr (hplane hs)
  unfold transferGoesOn
  split
  · exact runSent_emitsLegal s hpl _
  · split
    · rename_i htri
      exact runSent_emitsLegal s (.inr htri.2) 0
    · exact refreshSent_emitsLegal s

theorem startPlaneB_emitsLegal (hx : TransferSetup s) (hlen : s.planeLen ≠ 0) : EmitsLegal s (startPlaneB s) := by
  rw [startPlaneB_eq hx hlen]
  exact runSent_emitsLegal s (.inl rfl) 0

theorem continueTransfer_emitsLegal (hx : TransferSetup s) (hlen : s.planeLen ≠ 0) (hp : PlaneOk s)
    (hfull : s.ilCnt = s.interleave) : EmitsLegal s (continueTransfer s) := by
  have ⟨_, _, _, _, _, _, hplane⟩ := hp
  rw [continueTransfer_eq hx hlen hp hfull]
  exact transferGoesOn_emitsLegal hplane

/-! ### Commands (40_command.md R120 to R129) -/

/-- XFER past its preconditions, which name planes that are not empty. -/
theorem acceptXfer_emitsLegal (hd : DataOk s) : EmitsLegal s (acceptXfer s) := by
  by_cases hpre : XferReady s
  · by_cases htu : s.tu.toNat ≤ 1
    · rw [acceptXfer_transferUnit hpre htu]
      exact raiseError_emitsLegal _ (xferAccepted s)
    by_cases hil : s.interleave = 0
    · rw [acceptXfer_interleave hpre (by omega) hil]
      exact raiseError_emitsLegal _ (xferAccepted s)
    rw [acceptXfer_begins hpre (by omega) hil]
    cases hclear : s.clearEn with
    | true =>
      rw [beginTransfer_clear (s := xferAccepted s) hclear]
      exact issueBare_emitsLegal (s := transferSet (xferAccepted s)) (.inr (.inl rfl)) .clearAck
    | false =>
      rw [beginTransfer_plane (s := xferAccepted s) hclear]
      have hx : TransferSetup (transferSet (xferAccepted s)) :=
        transferSetup_transferSet (s := xferAccepted s) (by show 2 ≤ s.tu.toNat; omega) hil
      exact startPlaneB_emitsLegal hx (hd.planeLen_ne_zero (Bool.and_eq_true_iff.1 hpre).2)
  · rw [acceptXfer_sequence (Bool.eq_false_iff.2 hpre)]
    exact raiseError_emitsLegal _ s

theorem hostCommand_emitsLegal {command : State → State} (hc : command ∈ hostCommands) (hd : DataOk s) :
    EmitsLegal s (command s) := by
  simp only [hostCommands, List.mem_cons, List.not_mem_nil, or_false] at hc
  rcases hc with rfl | rfl | rfl | rfl | rfl | rfl | rfl | rfl
  · exact .nothing (complete_linkOut s)
  · unfold acceptOpen
    split
    · exact .one (r := .connect) rfl (by simp [LegalRequest])
    · exact raiseError_emitsLegal _ s
  · unfold acceptQuant
    repeat' split
    · exact raiseError_emitsLegal _ s
    · exact raiseError_emitsLegal _ s
    · exact raiseError_emitsLegal _ s
    · exact .nothing rfl
  · unfold acceptPack
    split
    · exact raiseError_emitsLegal _ s
    · exact .nothing rfl
  · exact acceptXfer_emitsLegal hd
  · unfold acceptClose
    split
    · exact startTeardown_emitsLegal (accept .closeOp s)
    · exact raiseError_emitsLegal _ s
  · unfold loadKernel
    split
    · exact raiseError_emitsLegal _ s
    · exact .nothing (complete_linkOut _)
  · exact raiseError_emitsLegal _ s

theorem present_emitsLegal (h : Legal True s) {command : State → State} (hc : command ∈ hostCommands) :
    EmitsLegal s (present command s) := by
  cases hb : s.status.busy with
  | true => rw [present_busy command s hb]; exact .nothing rfl
  | false =>
    obtain ⟨⟨_, hdata⟩, _⟩ := h.cleared hb
    obtain ⟨⟨hd, _⟩, _⟩ := hdata trivial
    rw [present_idle command s hb]
    exact hostCommand_emitsLegal (s := cleared s) hc hd

/-! ### The events (00_scope.md R10) -/

theorem onHostWrite_emitsLegal (h : Legal True s) {addr d : Word} (ht : onHostWrite addr d s = .next t) :
    EmitsLegal s t := by
  rcases onHostWrite_cases ht with ⟨command, hc, rfl⟩ | ⟨r, rfl⟩ | ⟨q, rfl⟩ | rfl
  · exact present_emitsLegal h hc
  · obtain ⟨_, _, _, _, _, hout, _⟩ := writeReg_frame d s r
    exact .nothing hout
  · exact .nothing rfl
  · exact .nothing rfl

theorem onLinkRsp_emitsLegal (h : Legal True s) (ok : Bool) (maxpl : Nat) : EmitsLegal s (onLinkRsp ok maxpl s) := by
  unfold onLinkRsp
  split
  · unfold onConnectRsp
    split
    · exact .one (r := .subscribe) rfl (by simp [LegalRequest])
    · exact raiseError_emitsLegal _ s
  · unfold onSubscribeRsp
    split
    · exact issueBare_emitsLegal
        (s := { s with status := { s.status with subscribed := true }, seqState := .negotiating }) (.inl rfl) .initAck
    · exact raiseError_emitsLegal _ s
  · exact onInitAck_emitsLegal ok s
  · rename_i hw
    obtain ⟨hx, hlen, _⟩ := h.transfer (by simp [hw])
    unfold onClearAck
    split
    · exact raiseError_emitsLegal _ s
    · exact startTimer_emitsLegal (startPlaneB_emitsLegal (s := { s with timer := 0 }) hx hlen)
  · rename_i hw
    obtain ⟨hx, hlen, hp⟩ := h.transfer (by simp [hw])
    have hplane := (hp (.inl hw)).acknowledged.waiting rfl 0 s.wait
    unfold onChunkAck
    split
    · exact raiseError_emitsLegal _ s
    · exact startTimer_emitsLegal (s := { s with ilCnt := s.interleave })
        (continueTransfer_emitsLegal (s := { s with ilCnt := s.interleave, timer := 0 }) hx hlen hplane rfl)
  · unfold onRefreshAck
    split
    · exact raiseError_emitsLegal _ s
    · exact startTimer_emitsLegal (startTeardown_emitsLegal { s with timer := 0 })
  · rw [onUnsubscribeRsp, noteTeardownRsp_eq]
    exact .one (r := .disconnect) rfl (by simp [LegalRequest])
  · rw [onDisconnectRsp_eq]
    exact .nothing rfl
  all_goals exact .nothing rfl

theorem onTick_emitsLegal (h : Legal True s) : EmitsLegal s (onTick s) := by
  unfold onTick
  split
  · exact countTick_emitsLegal (negotiationTimeout_emitsLegal { s with timer := 0 })
  · rename_i hw
    obtain ⟨hx, hlen, _⟩ := h.transfer (by simp [hw])
    exact countTick_emitsLegal (startPlaneB_emitsLegal (s := { s with timer := 0 }) hx hlen)
  · rename_i hw
    obtain ⟨hx, hlen, hp⟩ := h.transfer (by simp [hw])
    have hplane := hp (.inr hw)
    have ⟨_, _, _, _, _, hil, _⟩ := hplane
    exact countTick_emitsLegal (continueTransfer_emitsLegal (s := { s with timer := 0 }) hx hlen
      (hplane.waiting (hil hw) 0 s.wait) (hil hw))
  · exact countTick_emitsLegal (startTeardown_emitsLegal { s with timer := 0 })
  all_goals exact .nothing rfl

theorem PixOnly.linkOut (h : PixOnly s t) : t.linkOut = s.linkOut := by
  rw [show t = _ from h]

/-- The passes of the compute engine emit nothing. -/
theorem onEngine_emitsLegal (s : State) : EmitsLegal s (onEngine s) := by
  have hpass : ∀ u v : State, PixOnly s u → v.linkOut = u.linkOut → EmitsLegal s v := fun _ _ hu hv =>
    .nothing (hv.trans hu.linkOut)
  unfold onEngine
  split
  · split
    · unfold runQuant
      split
      · exact hpass _ _ (plainPass_pixOnly _ s) (complete_linkOut _)
      · have hd := diffusePass_pixOnly (List.range (pixelCount s)) s
        split <;> rename_i v heq <;> rw [heq] at hd
        · exact hpass v _ hd (complete_linkOut v)
        · exact hpass v _ hd (by simp [raiseError_local .accOverflow v rfl])
      · exact hpass _ _ (orderedPass_pixOnly _ s) (complete_linkOut _)
      · exact .nothing (complete_linkOut s)
    · unfold runPack
      rw [show packPlanes s = _ from packPlanes_planesOnly s]
      exact .nothing (complete_linkOut _)
    all_goals exact .nothing rfl
  · exact .nothing rfl

theorem onEvent_emitsLegal (h : Legal True s) {e : Event} (ht : onEvent e s = .next t) : EmitsLegal s t := by
  cases e with
  | hostWrite addr d => exact onHostWrite_emitsLegal h ht
  | hostRead addr =>
    cases ht
    obtain ⟨word, n, heq⟩ := onHostRead_frame addr s
    rw [heq]
    exact .nothing rfl
  | linkRsp ok maxpl => cases ht; exact onLinkRsp_emitsLegal h ok maxpl
  | notify bytes => cases ht; exact onNotify_emitsLegal bytes s
  | tick => cases ht; exact onTick_emitsLegal h
  | engine => cases ht; exact onEngine_emitsLegal s
  | resetInput => cases ht; exact .nothing rfl

/-- Settles O45: each event emits nothing, one request, or one run of chunks. -/
theorem legalRequests : Obligations.LegalRequests := by
  intro s t hinv hstep
  have hlegal := (legal_true_iff s).2 hinv
  obtain ⟨_, _, _, _, hframer⟩ := hlegal.running
  rcases step_cases s t hframer hstep with ⟨_, rfl⟩ | ⟨e, rest, _, hev⟩
  · exact EmitsLegal.nothing rfl
  · exact onEvent_emitsLegal (s := { s with inputs := rest }) hlegal hev

end Sys2Proof.Machine
end

section
/-! The frames with an empty payload (45_codec.md R220 to R223): one acknowledged request, then the wait for its
response (60_exceptions.md R248). -/

namespace Sys2Proof.Machine

/-- With an empty payload the frame is its opcode byte; only the request and the wait point change. -/
theorem issueBare_eq (op : Byte) (w : Wait) (s : State) :
    issueBare op w s = { s with linkOut := s.linkOut ++ [.write [op] true], wait := w } := by
  simp only [issueBare, frameBytes, emit, waitAt]

theorem exec_init_eq (s : State) : exec .init s = .next (issueBare s.cfg.opInit .initAck s) := rfl

theorem exec_clear_eq (s : State) : exec .clear s = .next (issueBare s.cfg.opClear .clearAck s) := rfl

theorem exec_refresh_eq (s : State) : exec .refresh s = .next (issueBare s.cfg.opRefresh .refreshAck s) := rfl

/-- Settles O18: each of the three instructions issues the bare frame of its opcode byte. -/
theorem bareFramesIssued : Obligations.BareFramesIssued := by
  intro s
  rw [exec_init_eq, exec_clear_eq, exec_refresh_eq]
  simp only [issueBare_eq, and_self]

end Sys2Proof.Machine
end

section
/-! Errors (60_exceptions.md R230 to R236): the code that is kept, and what each class of error does next. -/

namespace Sys2Proof.Machine

variable {s : State} {code : ErrCode}

/-- The code after an error: the first one is kept (60_exceptions.md R236). -/
def firstCode (code : ErrCode) (s : State) : ErrCode := if s.errcode = .none then code else s.errcode

theorem recordError_eq (code : ErrCode) (s : State) : recordError code s = { s with errcode := firstCode code s } := by
  unfold recordError firstCode
  split <;> rfl

theorem firstCode_ne_none (h : code ≠ .none) : firstCode code s ≠ .none := by
  unfold firstCode
  split
  · exact h
  · assumption

/-! ### The class column (60_exceptions.md R230) -/

theorem errClass_localError_iff :
    errClass code = .localError ↔ code ∈ [ErrCode.illegalCommand, .sequence, .illegalAlg, .badKernel, .accOverflow] := by
  cases code <;> decide

theorem errClass_sessionError_iff :
    errClass code = .sessionError ↔
      code ∈ [ErrCode.cfgResolution, .cfgTransferUnit, .cfgInterleave, .cfgCapacity, .transfer, .cmdAck, .linkConnect,
        .linkSubscribe] := by
  cases code <;> decide

/-! ### What follows -/

theorem raiseError_local_eq (h : errClass code = .localError) :
    raiseError code s =
      { s with
        errcode := firstCode code s, curOp := .none, wait := .idle
        status := { s.status with busy := false, err := true } } := by
  have hcode : code ≠ .none := by
    rintro rfl
    cases h
  rw [raiseError_local code s h, recordError_eq, complete_of_error (firstCode_ne_none hcode)]

theorem raiseError_session_eq (h : errClass code = .sessionError) :
    raiseError code s = startTeardown { s with errcode := firstCode code s } := by
  rw [raiseError_session code s h, recordError_eq]

/-- Settles O29, by the class of the code. -/
theorem raiseErrorEntry : Obligations.RaiseErrorEntry := by
  intro s code first
  refine ⟨fun hlocal => ?_, fun hsession => ?_, ?_⟩
  · exact raiseError_local_eq (errClass_localError_iff.2 hlocal)
  · exact raiseError_session_eq (errClass_sessionError_iff.2 hsession)
  · rw [raiseError_linkTeardown, recordError_eq, firstCode]

end Sys2Proof.Machine
end

section
/-! Inputs that nothing waits for (60_exceptions.md R245, R249, 43_session.md R175). -/

namespace Sys2Proof.Machine

variable {s : State} {w : Wait}

/-! ### The wait points by what they wait for (10_state.md R26) -/

theorem timedWait_iff : timedWait w = true ↔ w ∈ [Wait.negotiate, .settleClear, .pace, .settleRefresh] := by
  cases w <;> decide

theorem awaitsResponse_iff :
    awaitsResponse w = true ↔
      w ∈ [Wait.connect, .subscribe, .initAck, .clearAck, .chunkAck, .refreshAck, .unsubscribe, .disconnect] := by
  cases w <;> decide

/-! ### The discarded inputs -/

theorem onTick_untimed (h : timedWait s.wait = false) : onTick s = s := by
  unfold onTick
  split
  case h_1 hw | h_2 hw | h_3 hw | h_4 hw => rw [hw] at h; cases h
  all_goals rfl

theorem onLinkRsp_unawaited (h : awaitsResponse s.wait = false) (ok : Bool) (maxpl : Nat) :
    onLinkRsp ok maxpl s = s := by
  unfold onLinkRsp
  split
  case h_1 hw | h_2 hw | h_3 hw | h_4 hw | h_5 hw | h_6 hw | h_7 hw | h_8 hw => rw [hw] at h; cases h
  all_goals rfl

theorem onEngine_unawaited (h : s.wait ≠ .engine) : onEngine s = s := if_neg h

theorem onNotify_unsubscribed (h : s.status.subscribed = false) (bytes : List Byte) : onNotify bytes s = s := if_pos h

/-- Settles O46. -/
theorem unexpectedInputsIgnored : Obligations.UnexpectedInputsIgnored := by
  intro s hframer
  refine ⟨fun hw => ?_, fun hw ok maxpl => ?_, fun hw => ?_, fun hsub bytes => ?_⟩
  · rw [step_tick hframer, onTick_untimed (Bool.eq_false_iff.2 (timedWait_iff.not.2 hw))]
  · rw [step_linkRsp hframer, onLinkRsp_unawaited (Bool.eq_false_iff.2 (awaitsResponse_iff.not.2 hw))]
  · rw [step_deliver s _ hframer]
    exact congrArg Host.Outcome.next (onEngine_unawaited hw)
  · rw [step_notify hframer, onNotify_unsubscribed hsub]

end Sys2Proof.Machine
end

section
/-! At most one request awaits a response (60_exceptions.md R248): what an event emits ends with the request whose response
the sequencer then awaits. This holds in every state, whatever the registers of the transfer hold. -/

namespace Sys2Proof.Machine

variable {s t u : State}

/-- From `s` to `t` nothing is emitted, or a run of requests that ends with the one awaited in `t`. -/
def EmitsAwaited (s t : State) : Prop :=
  ∃ emitted, t.linkOut = s.linkOut ++ emitted ∧ OneOutstanding t.cfg emitted t.wait

/-! ### The ways to emit -/

theorem EmitsAwaited.nothing (h : t.linkOut = s.linkOut) : EmitsAwaited s t :=
  ⟨[], by rw [h, List.append_nil], .inl rfl⟩

theorem EmitsAwaited.run {unacked : List LinkReq} {last : LinkReq}
    (h : t.linkOut = s.linkOut ++ (unacked ++ [last])) (hun : ∀ r ∈ unacked, ∃ bytes, r = .write bytes false)
    (hlast : hasResponse last = true) (hw : AwaitedAt t.cfg last t.wait) : EmitsAwaited s t :=
  ⟨_, h, .inr ⟨unacked, last, rfl, hun, hlast, hw⟩⟩

theorem EmitsAwaited.one {r : LinkReq} (h : t.linkOut = s.linkOut ++ [r]) (hr : hasResponse r = true)
    (hw : AwaitedAt t.cfg r t.wait) : EmitsAwaited s t :=
  .run (unacked := []) h (by simp) hr hw

/-- Only the record of requests at the start counts. -/
theorem EmitsAwaited.of_linkOut (h : EmitsAwaited u t) (hu : u.linkOut = s.linkOut) : EmitsAwaited s t := by
  unfold EmitsAwaited
  rw [← hu]
  exact h

theorem issueInit_emitsAwaited (s : State) : EmitsAwaited s (issueInit s) := .one rfl rfl (.inl ⟨rfl, rfl⟩)

theorem issueClear_emitsAwaited (s : State) : EmitsAwaited s (issueClear s) := .one rfl rfl (.inr (.inl ⟨rfl, rfl⟩))

theorem issueRefresh_emitsAwaited (s : State) : EmitsAwaited s (issueRefresh s) :=
  .one rfl rfl (.inr (.inr (.inl ⟨rfl, rfl⟩)))

theorem startTeardown_emitsAwaited (s : State) : EmitsAwaited s (startTeardown s) :=
  .one (r := .unsubscribe) rfl rfl rfl

/-- An error emits nothing, or UNSUBSCRIBE, which starts teardown (60_exceptions.md R236). -/
theorem raiseError_emitsAwaited (code : ErrCode) (s : State) : EmitsAwaited s (raiseError code s) := by
  unfold raiseError
  split
  · exact .nothing rfl
  · exact .nothing (by simp)
  · exact (startTeardown_emitsAwaited _).of_linkOut (recordError_linkOut code s)
  · exact .nothing (recordError_linkOut _ s)

theorem startTimer_emitsAwaited (delay : Half) (w : Wait) {goOn : State → State} (s : State)
    (hgo : ∀ u, EmitsAwaited u (goOn u)) : EmitsAwaited s (startTimer delay w goOn s) := by
  rcases startTimer_cases delay w goOn s with ⟨_, heq⟩ | ⟨_, heq⟩ <;> rw [heq]
  · exact (hgo _).of_linkOut rfl
  · exact .nothing rfl

theorem countTick_emitsAwaited {goOn : State → State} (s : State) (hgo : ∀ u, EmitsAwaited u (goOn u)) :
    EmitsAwaited s (countTick goOn s) := by
  rcases countTick_cases goOn s with ⟨_, heq⟩ | ⟨_, heq⟩ <;> rw [heq]
  · exact (hgo _).of_linkOut rfl
  · exact .nothing rfl

/-! ### The session (43_session.md) -/

theorem resolve_emitsAwaited (s : State) : EmitsAwaited s (resolve s) := by
  rcases resolve_cases s with ⟨code, _, heq⟩ | ⟨w, h, heq⟩ <;> rw [heq]
  · exact raiseError_emitsAwaited code s
  · exact .nothing (complete_linkOut _)

theorem negotiationTimeout_emitsAwaited (s : State) : EmitsAwaited s (negotiationTimeout s) :=
  (resolve_emitsAwaited _).of_linkOut rfl

theorem recordNotification_linkOut (bytes : List Byte) (s : State) :
    (recordNotification bytes s).linkOut = s.linkOut := by
  obtain ⟨_, _, _, _, _, _, _, _, _, _, _, heq⟩ := recordNotification_frame bytes s
  rw [heq]

theorem onNotify_emitsAwaited (bytes : List Byte) (s : State) : EmitsAwaited s (onNotify bytes s) := by
  have hrec := recordNotification_linkOut bytes s
  unfold onNotify
  repeat' split
  · exact .nothing rfl
  · exact (resolve_emitsAwaited _).of_linkOut hrec
  · exact .nothing hrec

/-! ### The transfer (44_transfer.md) -/

/-- A run of chunks: only the last one is acknowledged, and it is awaited (44_transfer.md R206). -/
theorem sendChunks_emitsAwaited (h : s.chunkIdx.toNat < s.chunkCnt.toNat) : EmitsAwaited s (sendChunks s) := by
  obtain ⟨m, unacked, last, _, _, heq, _, hun, hlast, _⟩ := sendChunks_spec s h
  rw [heq]
  refine .run rfl (fun r hr => ?_) rfl (.inr (.inr (.inr ⟨rfl, hlast⟩)))
  obtain ⟨rest, rfl⟩ := hun r hr
  exact ⟨_, rfl⟩

theorem runPlane_emitsAwaited (pl : Plane) {atEnd : State → State} (hend : ∀ u, EmitsAwaited u (atEnd u)) (s : State) :
    EmitsAwaited s (runPlane atEnd (loadPlane pl s)) := by
  have hload : (loadPlane pl s).linkOut = s.linkOut := rfl
  unfold runPlane
  split
  · exact (hend _).of_linkOut hload
  · rename_i hne
    exact (sendChunks_emitsAwaited (s := loadPlane pl s) (one_le_toNat_of_ne_zero hne)).of_linkOut hload

theorem startRefresh_emitsAwaited (s : State) : EmitsAwaited s (startRefresh s) :=
  (issueRefresh_emitsAwaited _).of_linkOut rfl

theorem planeEnd_emitsAwaited (s : State) : EmitsAwaited s (planeEnd s) := by
  unfold planeEnd
  split
  · exact runPlane_emitsAwaited .r startRefresh_emitsAwaited s
  · exact startRefresh_emitsAwaited s

theorem startPlaneB_emitsAwaited (s : State) : EmitsAwaited s (startPlaneB s) :=
  runPlane_emitsAwaited .b planeEnd_emitsAwaited s

theorem continueTransfer_emitsAwaited (s : State) : EmitsAwaited s (continueTransfer s) := by
  unfold continueTransfer
  split
  · exact sendChunks_emitsAwaited ‹_›
  · exact planeEnd_emitsAwaited s

theorem beginTransfer_emitsAwaited (s : State) : EmitsAwaited s (beginTransfer s) := by
  cases hclear : s.clearEn with
  | true =>
    rw [beginTransfer_clear hclear]
    exact (issueClear_emitsAwaited _).of_linkOut rfl
  | false =>
    rw [beginTransfer_plane hclear]
    exact (startPlaneB_emitsAwaited _).of_linkOut rfl

/-! ### Commands (40_command.md R120 to R129) -/

theorem acceptXfer_emitsAwaited (s : State) : EmitsAwaited s (acceptXfer s) := by
  have haccepted : (xferAccepted s).linkOut = s.linkOut := rfl
  unfold acceptXfer
  dsimp only
  repeat' split
  · exact raiseError_emitsAwaited _ s
  · exact (raiseError_emitsAwaited _ _).of_linkOut haccepted
  · exact (raiseError_emitsAwaited _ _).of_linkOut haccepted
  · exact (beginTransfer_emitsAwaited _).of_linkOut haccepted

theorem hostCommand_emitsAwaited {command : State → State} (hc : command ∈ hostCommands) (s : State) :
    EmitsAwaited s (command s) := by
  simp only [hostCommands, List.mem_cons, List.not_mem_nil, or_false] at hc
  rcases hc with rfl | rfl | rfl | rfl | rfl | rfl | rfl | rfl
  · exact .nothing (complete_linkOut s)
  · unfold acceptOpen
    split
    · exact .one (r := .connect) rfl rfl rfl
    · exact raiseError_emitsAwaited _ s
  · unfold acceptQuant
    repeat' split
    case isFalse => exact .nothing rfl
    all_goals exact raiseError_emitsAwaited _ s
  · unfold acceptPack
    split
    · exact raiseError_emitsAwaited _ s
    · exact .nothing rfl
  · exact acceptXfer_emitsAwaited s
  · unfold acceptClose
    split
    · exact (startTeardown_emitsAwaited _).of_linkOut rfl
    · exact raiseError_emitsAwaited _ s
  · unfold loadKernel
    split
    · exact raiseError_emitsAwaited _ s
    · exact .nothing (complete_linkOut _)
  · exact raiseError_emitsAwaited _ s

theorem present_emitsAwaited {command : State → State} (hc : command ∈ hostCommands) (s : State) :
    EmitsAwaited s (present command s) := by
  cases hb : s.status.busy with
  | true => rw [present_busy command s hb]; exact .nothing rfl
  | false =>
    rw [present_idle command s hb]
    exact (hostCommand_emitsAwaited hc (cleared s)).of_linkOut rfl

/-! ### The events (00_scope.md R10) -/

theorem onHostWrite_emitsAwaited {addr d : Word} (ht : onHostWrite addr d s = .next t) : EmitsAwaited s t := by
  rcases onHostWrite_cases ht with ⟨command, hc, rfl⟩ | ⟨r, rfl⟩ | ⟨q, rfl⟩ | rfl
  · exact present_emitsAwaited hc s
  · obtain ⟨_, _, _, _, _, hout, _⟩ := writeReg_frame d s r
    exact .nothing hout
  · exact .nothing rfl
  · exact .nothing rfl

theorem onHostRead_linkOut (addr : Word) (s : State) : (onHostRead addr s).linkOut = s.linkOut := by
  obtain ⟨word, n, heq⟩ := onHostRead_frame addr s
  rw [heq]

theorem onLinkRsp_emitsAwaited (ok : Bool) (maxpl : Nat) (s : State) : EmitsAwaited s (onLinkRsp ok maxpl s) := by
  unfold onLinkRsp
  split
  · unfold onConnectRsp
    split
    · exact .one (r := .subscribe) rfl rfl rfl
    · exact raiseError_emitsAwaited _ s
  · unfold onSubscribeRsp
    split
    · exact (issueInit_emitsAwaited _).of_linkOut rfl
    · exact raiseError_emitsAwaited _ s
  · unfold onInitAck
    repeat' split
    · exact raiseError_emitsAwaited _ s
    · exact resolve_emitsAwaited s
    · exact startTimer_emitsAwaited _ _ s negotiationTimeout_emitsAwaited
  · unfold onClearAck
    split
    · exact raiseError_emitsAwaited _ s
    · exact startTimer_emitsAwaited _ _ s startPlaneB_emitsAwaited
  · unfold onChunkAck
    split
    · exact raiseError_emitsAwaited _ s
    · exact (startTimer_emitsAwaited _ _ _ continueTransfer_emitsAwaited).of_linkOut rfl
  · unfold onRefreshAck
    split
    · exact raiseError_emitsAwaited _ s
    · exact startTimer_emitsAwaited _ _ s startTeardown_emitsAwaited
  · rw [onUnsubscribeRsp, noteTeardownRsp_eq]
    exact .one (r := .disconnect) rfl rfl rfl
  · rw [onDisconnectRsp_eq]
    exact .nothing rfl
  all_goals exact .nothing rfl

theorem onTick_emitsAwaited (s : State) : EmitsAwaited s (onTick s) := by
  unfold onTick
  split
  · exact countTick_emitsAwaited s negotiationTimeout_emitsAwaited
  · exact countTick_emitsAwaited s startPlaneB_emitsAwaited
  · exact countTick_emitsAwaited s continueTransfer_emitsAwaited
  · exact countTick_emitsAwaited s startTeardown_emitsAwaited
  all_goals exact .nothing rfl

theorem runQuant_linkOut (s : State) : (runQuant s).linkOut = s.linkOut := by
  unfold runQuant
  split
  · exact (complete_linkOut _).trans (plainPass_pixOnly _ s).linkOut
  · have hpass := (diffusePass_pixOnly (List.range (pixelCount s)) s).linkOut
    split <;> rename_i v heq <;> rw [heq] at hpass
    · exact (complete_linkOut v).trans hpass
    · rw [raiseError_local_eq rfl]
      exact hpass
  · exact (complete_linkOut _).trans (orderedPass_pixOnly _ s).linkOut
  · exact complete_linkOut s

theorem runPack_linkOut (s : State) : (runPack s).linkOut = s.linkOut := by
  unfold runPack
  rw [show packPlanes s = _ from packPlanes_planesOnly s]
  exact complete_linkOut _

/-- The passes of the compute engine emit nothing. -/
theorem onEngine_linkOut (s : State) : (onEngine s).linkOut = s.linkOut := by
  unfold onEngine
  split
  · split
    · exact runQuant_linkOut s
    · exact runPack_linkOut s
    all_goals rfl
  · rfl

theorem onEvent_emitsAwaited {e : Event} (ht : onEvent e s = .next t) : EmitsAwaited s t := by
  cases e with
  | hostWrite addr d => exact onHostWrite_emitsAwaited ht
  | hostRead addr => cases ht; exact .nothing (onHostRead_linkOut addr s)
  | linkRsp ok maxpl => cases ht; exact onLinkRsp_emitsAwaited ok maxpl s
  | notify bytes => cases ht; exact onNotify_emitsAwaited bytes s
  | tick => cases ht; exact onTick_emitsAwaited s
  | engine => cases ht; exact .nothing (onEngine_linkOut s)
  | resetInput => cases ht; exact .nothing rfl

theorem step_emitsAwaited (hframer : s.framer = none) (ht : step s = .next t) : EmitsAwaited s t := by
  rcases step_cases s t hframer ht with ⟨_, rfl⟩ | ⟨e, rest, _, hev⟩
  · exact .nothing rfl
  · exact (onEvent_emitsAwaited hev).of_linkOut rfl

/-! ### Silence while a response is awaited (60_exceptions.md R248) -/

/-- A command is in progress wherever a response is awaited. -/
theorem ControlOk.busy_of_awaitsResponse (h : ControlOk s) (hw : awaitsResponse s.wait = true) :
    s.status.busy = true := by
  by_contra hb
  obtain ⟨_, _, hidle⟩ := ((legal_false_iff s).2 h).cleared (Bool.eq_false_iff.2 hb)
  rw [hidle] at hw
  cases hw

/-- Where a response is awaited, neither a tick nor the engine's event is. -/
theorem untimed_and_ne_engine_of_awaitsResponse {w : Wait} (h : awaitsResponse w = true) :
    timedWait w = false ∧ w ≠ .engine := by
  cases w with
  | negotiate | settleClear | pace | settleRefresh | engine => cases h
  | _ => exact ⟨rfl, by simp⟩

theorem onHostWrite_busy_linkOut {addr d : Word} (hb : s.status.busy = true) (ht : onHostWrite addr d s = .next t) :
    t.linkOut = s.linkOut := by
  rcases onHostWrite_cases ht with ⟨command, _, rfl⟩ | ⟨r, rfl⟩ | ⟨q, rfl⟩ | rfl
  · rw [present_busy command s hb]
  · obtain ⟨_, _, _, _, _, hout, _⟩ := writeReg_frame d s r
    exact hout
  · rfl
  · rfl

/-- A notification emits nothing unless it ends the negotiation (43_session.md R181). -/
theorem onNotify_linkOut (h : s.wait ≠ .negotiate) (bytes : List Byte) : (onNotify bytes s).linkOut = s.linkOut := by
  unfold onNotify
  split
  · rfl
  · rw [if_neg fun hw => h hw.1, recordNotification_linkOut]

theorem onEvent_silent {e : Event} (h : ControlOk s) (hw : awaitsResponse s.wait = true)
    (he : ∀ ok maxpl, e ≠ .linkRsp ok maxpl) (ht : onEvent e s = .next t) : t.linkOut = s.linkOut := by
  obtain ⟨htimed, hengine⟩ := untimed_and_ne_engine_of_awaitsResponse hw
  cases e with
  | hostWrite addr d => exact onHostWrite_busy_linkOut (h.busy_of_awaitsResponse hw) ht
  | hostRead addr => cases ht; exact onHostRead_linkOut addr s
  | linkRsp ok maxpl => exact absurd rfl (he ok maxpl)
  | notify bytes =>
    cases ht
    refine onNotify_linkOut (fun hneg => ?_) bytes
    rw [hneg] at hw
    cases hw
  | tick => cases ht; rw [onTick_untimed htimed]
  | engine => cases ht; rw [onEngine_unawaited hengine]
  | resetInput => cases ht; rfl

/-- Settles O44: an event's last request is the one it waits for, and while one is awaited BUSY drops the commands. -/
theorem oneOutstandingRequest : Obligations.OneOutstandingRequest := by
  refine ⟨fun s t hframer hstep => step_emitsAwaited hframer hstep, fun s t e hcontrol hw he hstep => ?_⟩
  have ⟨_, _, _, hframer⟩ := hcontrol
  rw [step_deliver s e hframer] at hstep
  exact onEvent_silent hcontrol hw he hstep

end Sys2Proof.Machine
end

section
/-! The machine right after power-on (70_reset_and_hazards.md R262, R263): the parameters that 00_scope.md R6 leaves OPEN
are used through their bounds only, and the rest of the invariant is read off the reset values. -/

namespace Sys2Proof.Machine

/-! ### The parameters (00_scope.md R6, R7) -/

/-- A row of the OPEN table gives each dimension less one, so that no resolution of `MODEL_RES` is empty. -/
theorem modelEntryOf_nonempty (row : Byte × Fin 65535 × Fin 65535) :
    1 ≤ (Config.modelEntryOf row).width.toNat ∧ 1 ≤ (Config.modelEntryOf row).height.toNat := by
  obtain ⟨_, w, h⟩ := row
  simp only [Config.modelEntryOf, BitVec.toNat_ofNat]
  omega

theorem params_modelRes_nonempty :
    ∀ e ∈ Config.params.modelRes, 1 ≤ e.width.toNat ∧ 1 ≤ e.height.toNat := by
  intro e he
  obtain ⟨row, _, rfl⟩ := List.mem_map.1 he
  exact modelEntryOf_nonempty row

/-- The wire bytes of R6 are default values that satisfy R7; the OPEN rows lie in their ranges whatever they are. -/
theorem params_ok : Config.params.Ok := by
  have hpix : Config.params.pixCap = Config.pixCapLessOne.val + 1 := rfl
  have hplane : Config.params.planeCap = Config.planeCapLessTwo.val + 2 := rfl
  have hpixLt := Config.pixCapLessOne.isLt
  have hplaneLt := Config.planeCapLessTwo.isLt
  refine ⟨by omega, by omega, by omega, by omega, params_modelRes_nonempty, ?wire⟩
  case wire => decide

/-! ### The parts of the invariant -/

theorem reset_controlOk : ControlOk State.reset :=
  ⟨rfl, by decide, rfl, rfl⟩

theorem reset_timerOk : TimerOk State.reset := nofun

theorem reset_flagsOk : FlagsOk State.reset :=
  ⟨nofun, fun _ => rfl, nofun, fun _ => rfl, fun ⟨hopen, _⟩ => nomatch hopen⟩

/-- Neither memory lists a key: their contents are unspecified (10_state.md R47, R48). -/
theorem reset_memoryOk : MemoryOk State.reset := ⟨rfl, rfl⟩

theorem reset_capacityOk : CapacityOk State.reset := ⟨rfl, rfl⟩

/-- No resolution and no plane is valid, so that nothing is asked of the data they would describe. -/
theorem reset_dataOk : DataOk State.reset :=
  ⟨reset_memoryOk, reset_capacityOk, params_ok, nofun, nofun, nofun⟩

theorem reset_phaseOk : PhaseOk .disconnected State.reset :=
  ⟨nofun, nofun, by decide⟩

theorem reset_sessionOk : SessionOk State.reset :=
  (sessionOk_iff _ reset_memoryOk reset_capacityOk).2 ⟨reset_dataOk, reset_phaseOk⟩

theorem reset_transferOk : TransferOk State.reset := nofun

/-- Settles O58: the unit is disconnected and idle, no flag is set, and the parameters are within R6 and R7. -/
theorem invAtReset : Obligations.InvAtReset :=
  ⟨reset_controlOk, reset_timerOk, reset_flagsOk, reset_memoryOk, reset_capacityOk, reset_sessionOk, reset_transferOk⟩

end Sys2Proof.Machine
end
